-- ==== Sys2Proof/Word.lean ====
section
/-! DEFINITION. The two value types of the machine: `Byte` and `Word` (00_scope.md section 5). Their arithmetic wraps (R5, R6), which is BitVec's own; every other primitive stands in Machine/Alu.lean. -/

namespace Sys2Proof

/-- An 8-bit value (R5). -/
abbrev Byte := BitVec 8

/-- A 16-bit value; "all bus addresses are words" (R6, R51). -/
abbrev Word := BitVec 16

end Sys2Proof
end

