-- ==== Sys2Proof/Config.lean ====
section
/-! DEFINITION. What an implementation fixes: the decided parameters of 00_scope.md R4, and the one free value of the model, what a device window outside the block returns (20_memory.md R66, 92_eei_decisions.md D22). -/

namespace Sys2Proof

/-- The two values of the parameter WORD_READ_WRAP (92_eei_decisions.md D4). -/
inductive WordReadWrap where
  | linear16
  | page
  deriving DecidableEq, Repr

/-- The device windows whose behaviour the spec leaves to a parameter: DEV_PPU (R74), DEV_IO (R75) and CART_LOW (R77). -/
inductive PortId where
  | ppu
  | io
  | cartLow
  deriving DecidableEq, Repr

/-- One access the bus made to a device window, by register number (R66). -/
inductive PortEvent where
  | read (register : Nat)
  | write (register : Nat) (data : Byte)
  deriving DecidableEq, Repr

/-- WORD_READ_WRAP, decided `linear16` (D4; log 9). -/
def Config.wordReadWrap : WordReadWrap := .linear16

/-- BRK_RETURN_OFFSET, decided 2 (D6; log 9). -/
def Config.brkReturnOffset : Word := 2

/-- ENTRY_SETS_I, decided true (D7; log 9). -/
def Config.entrySetsI : Bool := true

/-- RESET_I, decided 1 (D9; log 9). -/
def Config.resetI : Bool := true

/-- FREE VALUE (log 1). The byte a device window returns for a register, as an unknown function of every access made to that
window so far (newest first) and of a number that stands for what the environment did to the device between steps. DESIGN
CHOICE, safe: it has no body, so nothing can be proved about its values (R74, R75, U6, U7, U8: any value). -/
opaque Config.deviceRead : PortId → List PortEvent → Nat → Nat → Byte

end Sys2Proof
end

