-- ==== Sys2Proof/Machine/State.lean ====
section
/-! DEFINITION. The state of the machine as plain data (10_state.md R20), the reasons a step can stop, and the state right after
reset (R50). -/

namespace Sys2Proof.Machine

/-- Bytes by index in one canonical form: indices strictly rising, no entry equal to what an unlisted index reads as
(`Memory.wf` in Machine/Memory.lean). -/
abbrev Memory := List Host.Cell

/-- The six stored status flags (R25); bits 4 and 5 of the status byte are no state (R27). -/
structure Flags where
  /-- carry, bit 0 of the packed byte -/
  c : Bool
  /-- zero, bit 1 -/
  z : Bool
  /-- interrupt-disable, bit 2 -/
  i : Bool
  /-- decimal, bit 3: stored, never read by arithmetic (R190) -/
  d : Bool
  /-- overflow, bit 6 -/
  v : Bool
  /-- negative, bit 7 -/
  n : Bool
  deriving DecidableEq, Repr

/-- What stands behind a device window (log 1, log 8). DESIGN CHOICE. -/
inductive PortMode where
  /-- The spec's test stub: reads 0x00, writes ignored (92_eei_decisions.md, the table of open parameters). -/
  | stub
  /-- Any device: reads give the free value `Config.deviceRead` (93_implementation_defined.md U6, U7, U8). -/
  | free
  deriving DecidableEq, Repr

/-- The state of one device window outside the block (R20, R67). DESIGN CHOICE, safe (log 1): what the device holds is given by
every access made to it, newest first, and by a number that the environment may change between steps (R347). -/
structure Port where
  mode : PortMode
  history : List PortEvent
  outside : Nat
  deriving DecidableEq, Repr

/-- The ROM image handed to the cartridge at construction (20_memory.md R78). Each bank is held by offset; only the mapper number
and the PRG banks affect this block, and the bank counts decide acceptance (R79). -/
structure RomImage where
  mapper : Nat
  verticalMirroring : Bool
  persistentMemory : Bool
  trainerPresent : Bool
  fourScreenVram : Bool
  vsUnisystem : Bool
  playChoice : Bool
  /-- the optional 512-byte trainer block -/
  trainer : Option Memory
  /-- the 16 KB PRG-ROM banks in order -/
  prg : List Memory
  /-- the 8 KB CHR-ROM banks in order; they belong to the PPU's own address space (10_state.md R51) -/
  chr : List Memory
  deriving DecidableEq, Repr

/-- The cartridge on the fixed-mapping board (R77): its image, and what answers below 0x8000 (CART_LOW, D14). -/
structure Cartridge where
  image : RomImage
  low : Port
  deriving DecidableEq, Repr

/-- The closed set of device kinds (R67). -/
inductive DeviceKind where
  | ram
  | ppu
  | io
  | cartridge
  deriving DecidableEq, Repr

/-- One entry of the ordered device list (R64, R68): `stop` is exclusive and may be 0x10000 (D16). An entry holds no storage: entries
of one kind share what State holds for that kind (DESIGN CHOICE, unsafe, log 13). -/
structure Slot where
  kind : DeviceKind
  base : Nat
  stop : Nat
  capacity : Nat
  deriving DecidableEq, Repr

/-- The address map of R72 as a device list, in the order of the spec (D13); RAM holds 2 KB (R73), the PPU block 8 registers
(R74), the I/O block 32 addresses (R75). -/
def consoleDevices : List Slot :=
  [ ⟨.ram, 0x0000, 0x2000, 0x0800⟩,
    ⟨.ppu, 0x2000, 0x4000, 8⟩,
    ⟨.io, 0x4000, 0x4020, 0x20⟩,
    ⟨.cartridge, 0x4020, 0x10000, 0xBFE0⟩ ]

/-- The whole state (R20), and the configuration that is fixed at bring-up (`devices`, `cart.image`, the port modes), which
stands here because a step has no other argument (log 2). -/
structure State where
  /-- accumulator A (R21) -/
  a : Byte
  /-- index register X (R21) -/
  x : Byte
  /-- index register Y (R21) -/
  y : Byte
  /-- stack pointer S: the low byte of the next free slot's address (R22) -/
  sp : Byte
  /-- program counter PC (R23) -/
  pc : Word
  /-- status register P (R25) -/
  p : Flags
  /-- work RAM, by RAM index 0 to 0x7FF (R73) -/
  ram : Memory
  /-- the PPU-register block (R74) -/
  ppu : Port
  /-- the I/O-register block (R75) -/
  io : Port
  /-- the cartridge (R76, R77) -/
  cart : Cartridge
  /-- a reset has been requested (R305) -/
  resetPending : Bool
  /-- a non-maskable interrupt has been requested and not yet taken: a latch (R305) -/
  nmiPending : Bool
  /-- the maskable interrupt request: a level (R305) -/
  irqLine : Bool
  /-- the ordered device list of the bus (R64) -/
  devices : List Slot
  deriving DecidableEq, Repr

/-- Why a step stops. A fault carries no state: nothing may rest on the state a fault leaves (R302, U16; log 7). -/
inductive Fault where
  /-- Raised by any bus access to an address no device claims (R65, R300). Safe: the spec stops there too. -/
  | unmappedAccess (addr : Word)
  /-- Raised by fetching one of the 105 undefined opcode bytes; carries the address it was fetched from (R109, R301). Safe: the
  spec stops there too (D5). -/
  | illegalOpcode (pc0 : Word) (byte : Byte)
  deriving DecidableEq, Repr

/-- Why an instruction is refused. -/
inductive Refusal where
  /-- Raised by an arm of `exec` whose instruction has no meaning yet; no arm does. Safe: nothing is claimed of it. -/
  | notModelled (mnemonic : String)
  deriving DecidableEq, Repr

/-- The ROM image the model resets with: one 16 KB PRG bank with nothing listed. DESIGN CHOICE (log 5; ROM_IMAGE is open). -/
def RomImage.empty : RomImage where
  mapper := 0
  verticalMirroring := false
  persistentMemory := false
  trainerPresent := false
  fourScreenVram := false
  vsUnisystem := false
  playChoice := false
  trainer := none
  prg := [[]]
  chr := []

/-- The machine right after the reset step (R50, R340). Given by the spec: S, I, the pending bits, the address map. PC is the
word at 0xFFFC, 0x0000 on the empty image. DESIGN CHOICE, unsafe: A, X, Y and the flags C, Z, D, V, N at 0, the IRQ line low
(log 3), RAM with nothing listed (log 4), the image (log 5), the ports (log 1, log 8). -/
def State.reset : State where
  a := 0
  x := 0
  y := 0
  sp := 0xFF
  pc := 0x0000
  p := ⟨false, false, true, false, false, false⟩
  ram := []
  ppu := ⟨.free, [], 0⟩
  io := ⟨.free, [], 0⟩
  cart := ⟨RomImage.empty, ⟨.stub, [], 0⟩⟩
  resetPending := false
  nmiPending := false
  irqLine := false
  devices := consoleDevices

/-- The initial state of a run (R341): `reset_pending = 1`, so that the first step is the reset step. -/
def State.powerOn : State := { State.reset with resetPending := true }

/-! The setters: every change of one field goes through one of these, so that proofs never unfold a record update. -/

def State.setA (s : State) (v : Byte) : State := { s with a := v }
def State.setX (s : State) (v : Byte) : State := { s with x := v }
def State.setY (s : State) (v : Byte) : State := { s with y := v }
def State.setSp (s : State) (v : Byte) : State := { s with sp := v }
def State.setPc (s : State) (v : Word) : State := { s with pc := v }
def State.setP (s : State) (v : Flags) : State := { s with p := v }
def State.setRam (s : State) (v : Memory) : State := { s with ram := v }
def State.setPpu (s : State) (v : Port) : State := { s with ppu := v }
def State.setIo (s : State) (v : Port) : State := { s with io := v }
def State.setCart (s : State) (v : Cartridge) : State := { s with cart := v }
def State.setResetPending (s : State) (v : Bool) : State := { s with resetPending := v }
def State.setNmiPending (s : State) (v : Bool) : State := { s with nmiPending := v }
def State.setIrqLine (s : State) (v : Bool) : State := { s with irqLine := v }

end Sys2Proof.Machine
end

