-- ==== Sys2Proof/Machine/Cartridge.lean ====
section
/-! DEFINITION. The fixed-mapping cartridge (20_memory.md R76 to R79) and the device windows the spec leaves to a parameter. -/

namespace Sys2Proof.Machine

/-- Why a ROM image is rejected at construction (R79, R303). -/
inductive ConfigError where
  | unsupportedMapper (mapper : Nat)
  | badPrgSize (banks : Nat)
  | badChrSize (banks : Nat)
  deriving DecidableEq, Repr

/-- Construct the cartridge, or reject the image before any instruction executes (R79): mapper 0, one or two PRG banks, at most
one CHR bank (D14). That no PRG bank at all is rejected too is DEDUCED (log 5). -/
def Cartridge.construct (image : RomImage) (low : Port) : Except ConfigError Cartridge :=
  if image.mapper ≠ 0 then .error (.unsupportedMapper image.mapper)
  else if image.prg.length = 0 ∨ 2 < image.prg.length then .error (.badPrgSize image.prg.length)
  else if 1 < image.chr.length then .error (.badChrSize image.chr.length)
  else .ok ⟨image, low⟩

/-- The byte of PRG bank `i` at an offset; a bank the image does not have reads as unlisted, which no accepted image meets. -/
def RomImage.prgByte (image : RomImage) (i offset : Nat) : Byte := Memory.read ((image.prg[i]?).getD []) offset

/-- The byte of the ROM windows at an address from 0x8000 up: the lower window shows bank 0, the upper the last bank (R77, D14). -/
def RomImage.windowByte (image : RomImage) (a : Word) : Byte :=
  if a.toNat < 0xC000 then image.prgByte 0 (a.toNat - 0x8000) else image.prgByte (image.prg.length - 1) (a.toNat - 0xC000)

/-- The byte a device window returns: 0x00 from a stub, else the free value (log 1). -/
def Port.value (port : Port) (id : PortId) (register : Nat) : Byte :=
  match port.mode with
  | .stub => 0x00
  | .free => Config.deviceRead id port.history port.outside register

/-- The device window after an access: a stub ignores it, a free device has it in its history (R66). -/
def Port.after (port : Port) (event : PortEvent) : Port :=
  match port.mode with
  | .stub => port
  | .free => { port with history := event :: port.history }

end Sys2Proof.Machine
end

