-- ==== Sys2Proof/Machine/Alu.lean ====
section
/-! DEFINITION. The arithmetic primitives of 00_scope.md section 6 (R5 to R12) and the word composition of section 5. Byte and
Word addition and subtraction are BitVec's own, which wrap as R5 and R6 say. -/

namespace Sys2Proof.Machine

/-- `word(h, l)`: the Word `h * 256 + l` (R6). -/
def word (h l : Byte) : Word := h ++ l

/-- `high(w)` is `w[15:8]` (R6). -/
def high (w : Word) : Byte := w.extractLsb' 8 8

/-- `low(w)` is `w[7:0]` (R6). -/
def low (w : Word) : Byte := w.extractLsb' 0 8

/-- `zext_16(b)` (00_scope.md section 5). -/
def zext (b : Byte) : Word := b.setWidth 16

/-- `sext_16(b)` (00_scope.md section 5). -/
def sext (b : Byte) : Word := b.signExtend 16

/-! The single-bit operations of R7. DESIGN CHOICE, unsafe (log 12): the spec is silent on an index outside the width and U13 would
refuse it; here such a bit reads as false, and `set`, `clear` and `toggle` leave the value as it is. No rule uses such an index. -/

/-- `bit(v, i)` (R7); false outside the width (log 12). -/
def bitOf {w : Nat} (v : BitVec w) (i : Nat) : Bool := v.getLsbD i

/-- `set(v, i)` (R7); `v` outside the width (log 12). -/
def setBit {w : Nat} (v : BitVec w) (i : Nat) : BitVec w := v ||| BitVec.twoPow w i

/-- `clear(v, i)` (R7); `v` outside the width (log 12). -/
def clearBit {w : Nat} (v : BitVec w) (i : Nat) : BitVec w := v &&& ~~~ BitVec.twoPow w i

/-- `toggle(v, i)` (R7); `v` outside the width (log 12). -/
def toggleBit {w : Nat} (v : BitVec w) (i : Nat) : BitVec w := v ^^^ BitVec.twoPow w i

/-- `shift_left(v, cin)`: the result and the bit shifted out (R8). -/
def shiftLeft (v : Byte) (cin : Bool) : Byte × Bool := ((v <<< 1) ||| (BitVec.ofBool cin).setWidth 8, bitOf v 7)

/-- `shift_right(v, cin)`: the result and the bit shifted out (R8). -/
def shiftRight (v : Byte) (cin : Bool) : Byte × Bool := ((v >>> 1) ||| ((BitVec.ofBool cin).setWidth 8 <<< 7), bitOf v 0)

/-- `rotate_left(v, c)`: the result and the new carry (R9). -/
def rotateLeft (v : Byte) (c : Bool) : Byte × Bool := shiftLeft v c

/-- `rotate_right(v, c)`: the result and the new carry (R9). -/
def rotateRight (v : Byte) (c : Bool) : Byte × Bool := shiftRight v c

/-- `sign(v)` is `v[7]` (R10). -/
def sign (v : Byte) : Bool := bitOf v 7

/-- `overflows2(l, r)` (R11), computed from the bits. -/
def overflows2 (l r : Byte) : Bool := sign l == sign r && sign (l + r) != sign l

/-- `overflows3(l, r, res)` (R12): only the low byte of `res` is read. -/
def overflows3 (l r : Byte) (res : Nat) : Bool := sign l == sign r && sign (BitVec.ofNat 8 res) != sign l

end Sys2Proof.Machine
end

