-- ==== Sys2Proof/Machine/Flags.lean ====
section
/-! DEFINITION. Every computation over the status register: the packed forms (R30 to R33), the result flags (R34, R35), and the
flag side of add, subtract, compare and bit test (R190, R191, R217, R262). -/

namespace Sys2Proof.Machine

/-- `pack(P)`, the source's `value()`: bits 4 and 5 are 0 (R30). -/
def pack (p : Flags) : Byte :=
  (BitVec.ofBool p.n ++ BitVec.ofBool p.v ++ (0 : BitVec 2) ++ BitVec.ofBool p.d ++ BitVec.ofBool p.i ++ BitVec.ofBool p.z ++
    BitVec.ofBool p.c : BitVec 8)

/-- The byte PHP and BRK push: bits 5 and 4 forced set (R31). -/
def instructionValue (p : Flags) : Byte := pack p ||| 0x30

/-- The byte IRQ and NMI entry push: bit 5 forced set, bit 4 left clear (R32). -/
def interruptValue (p : Flags) : Byte := pack p ||| 0x20

/-- `assign(P, b)`: all six flags from the byte, bits 4 and 5 ignored (R33). -/
def assign (b : Byte) : Flags where
  c := bitOf b 0
  z := bitOf b 1
  i := bitOf b 2
  d := bitOf b 3
  v := bitOf b 6
  n := bitOf b 7

/-- `logical(r)`: Z and N from the result byte (R34). -/
def logical (p : Flags) (r : Byte) : Flags := { p with z := decide (r = 0), n := sign r }

/-- `arithmetic(r)`: `logical` of the low byte, and the carry of a result at least 9 bits wide (R35). -/
def arithmetic (p : Flags) (r : Nat) : Flags := { logical p (BitVec.ofNat 8 r) with c := decide (0xFF < r) }

/-- The exact sum of ADC, in 0..511 (R190, R198). -/
def addExact (a m : Byte) (carry : Bool) : Nat := a.toNat + m.toNat + carry.toNat

/-- The flags of ADC: `arithmetic` of the exact sum, and V by the three-operand predicate (R190, R12, C4). D is not read. -/
def addFlags (p : Flags) (a m : Byte) : Flags :=
  { arithmetic p (addExact a m p.c) with v := overflows3 a m (addExact a m p.c) }

/-- The byte ADC leaves in the accumulator (R190). -/
def addResult (p : Flags) (a m : Byte) : Byte := BitVec.ofNat 8 (addExact a m p.c)

/-- The flags of a compare of a register with an operand: the exact difference narrowed, carry for no borrow (R262). -/
def compareFlags (p : Flags) (r m : Byte) : Flags :=
  { logical p (BitVec.ofInt 8 ((r.toNat : Int) - m.toNat)) with c := decide (m.toNat ≤ r.toNat) }

/-- The flags of BIT: Z from the AND, N and V from bits 7 and 6 of the operand (R217, C3). -/
def bitTestFlags (p : Flags) (a m : Byte) : Flags :=
  { p with z := decide (a &&& m = 0), n := bitOf m 7, v := bitOf m 6 }

/-- The flags of a shift or rotate: Z and N from the result, C the bit shifted out (R213 to R216, C1). -/
def shiftFlags (p : Flags) (r : Byte × Bool) : Flags := { logical p r.1 with c := r.2 }

end Sys2Proof.Machine
end

