-- ==== Sys2Proof/Machine/Ops.lean ====
section
/-! DEFINITION. The named operations every meaning is written with: the bus (20_memory.md R60 to R71), the stack (10_state.md R40
to R45), entry through a vector and the return from it (60_exceptions.md R309 to R312), the reset sequence (R340). -/

namespace Sys2Proof.Machine

/-! ## Registers -/

/-- Copy a byte into a register and update Z and N via `logical` (R34, R170, R171, R172). -/
def State.loadA (s : State) (m : Byte) : State := (s.setA m).setP (logical s.p m)
def State.loadX (s : State) (m : Byte) : State := (s.setX m).setP (logical s.p m)
def State.loadY (s : State) (m : Byte) : State := (s.setY m).setP (logical s.p m)

/-- Add an operand and the carry to the accumulator (R190): every flag and the result from the accumulator before. -/
def State.addToA (s : State) (m : Byte) : State := (s.setA (addResult s.p s.a m)).setP (addFlags s.p s.a m)

/-! ## The bus -/

/-- `segment.contains(addr)` (R69). -/
def Slot.contains (d : Slot) (a : Word) : Bool := decide (d.base ≤ a.toNat) && decide (a.toNat < d.stop)

/-- `segment.index(addr)`: mirrored indexing (R70); for a register block, the register number (R74). -/
def Slot.index (d : Slot) (a : Word) : Nat := (a.toNat - d.base) % d.capacity

/-- The first device in list order that claims the address (R64). -/
def State.owner (s : State) (a : Word) : Option Slot := s.devices.find? fun d => d.contains a

/-- The byte device `d` returns for an address it claims (R66, R71, R74, R75, R77). DESIGN CHOICE, unsafe (log 13): two entries of
one kind in the device list are two views of the one RAM, window or cartridge that State holds, and the cartridge answers by the
address itself, wherever its entry lies; the spec describes the console's list, which has each kind once. -/
def Slot.byteAt (d : Slot) (s : State) (a : Word) : Byte :=
  match d.kind with
  | .ram => s.ram.read (d.index a)
  | .ppu => s.ppu.value .ppu (d.index a)
  | .io => s.io.value .io (d.index a)
  | .cartridge => if a.toNat < 0x8000 then s.cart.low.value .cartLow a.toNat else s.cart.image.windowByte a

/-- The state after device `d` was read: RAM and ROM reads have no side effect, a device window sees the read (R83). For two
entries of one kind, log 13. -/
def Slot.afterRead (d : Slot) (s : State) (a : Word) : State :=
  match d.kind with
  | .ram => s
  | .ppu => s.setPpu (s.ppu.after (.read (d.index a)))
  | .io => s.setIo (s.io.after (.read (d.index a)))
  | .cartridge => if a.toNat < 0x8000 then s.setCart { s.cart with low := s.cart.low.after (.read a.toNat) } else s

/-- The state after device `d` was written: one RAM cell changes (R71), a device window sees the write (R66), ROM ignores it
(R77, D14). For two entries of one kind, log 13. -/
def Slot.afterWrite (d : Slot) (s : State) (a : Word) (v : Byte) : State :=
  match d.kind with
  | .ram => s.setRam (s.ram.write (d.index a) v)
  | .ppu => s.setPpu (s.ppu.after (.write (d.index a) v))
  | .io => s.setIo (s.io.after (.write (d.index a) v))
  | .cartridge => if a.toNat < 0x8000 then s.setCart { s.cart with low := s.cart.low.after (.write a.toNat v) } else s

/-- The byte a bus read of an address returns (`0x00` where no device claims it, a case no bus access completes in). -/
def State.byteAt (s : State) (a : Word) : Byte :=
  match s.owner a with
  | some d => d.byteAt s a
  | none => 0x00

/-- The state after a bus read of an address. -/
def State.touch (s : State) (a : Word) : State :=
  match s.owner a with
  | some d => d.afterRead s a
  | none => s

/-- The state after a bus write to an address. -/
def State.store (s : State) (a : Word) (v : Byte) : State :=
  match s.owner a with
  | some d => d.afterWrite s a v
  | none => s

/-- Some device claims the address. -/
def State.claimed (s : State) (a : Word) : Bool := (s.owner a).isSome

/-- `MemRead(addr, 1)` (R60): exactly one device is read, once, or the access is unmapped (R65). -/
def busRead (a : Word) (s : State) : Except Fault (Byte × State) :=
  if s.claimed a then .ok (s.byteAt a, s.touch a) else .error (.unmappedAccess a)

/-- `MemWrite(addr, 1, v)` (R61). -/
def busWrite (a : Word) (v : Byte) (s : State) : Except Fault State :=
  if s.claimed a then .ok (s.store a v) else .error (.unmappedAccess a)

/-- Where the second byte of a word read lies: at `addr + 1` modulo 65536 under `linear16` (R62, R153, D4). -/
def secondAddr (a : Word) : Word :=
  match Config.wordReadWrap with
  | .linear16 => a + 1
  | .page => word (high a) (low a + 1)

/-- `MemRead(addr, 2)`: two byte reads, the low byte first (R62). -/
def readWord (a : Word) (s : State) : Except Fault (Word × State) := do
  let (l, s) ← busRead a s
  let (h, s) ← busRead (secondAddr a) s
  return (word h l, s)

/-- `MemWrite(addr, 2, w)`: two byte writes, the low byte first (R63). No instruction uses it. -/
def writeWord (a : Word) (w : Word) (s : State) : Except Fault State := do
  let s ← busWrite a (low w) s
  busWrite (a + 1) (high w) s

/-- The word two bus reads from an address on return, and the state they leave, where both bytes are claimed. -/
def State.wordAt (s : State) (a : Word) : Word := word ((s.touch a).byteAt (secondAddr a)) (s.byteAt a)
def State.touchWord (s : State) (a : Word) : State := (s.touch a).touch (secondAddr a)

/-! ## The stack -/

/-- The bus address of a stack slot: `0x0100 + S` (R22, R40). -/
def stackAddr (sp : Byte) : Word := 0x0100 + zext sp

/-- The state after `push8` where the slot is claimed (R40). -/
def State.push (s : State) (b : Byte) : State := (s.store (stackAddr s.sp) b).setSp (s.sp - 1)

/-- The byte `pull8` returns, and the state it leaves, where the slot is claimed (R41). -/
def State.top (s : State) : Byte := s.byteAt (stackAddr (s.sp + 1))
def State.pop (s : State) : State := (s.setSp (s.sp + 1)).touch (stackAddr (s.sp + 1))

/-- `push8(b)` (R40): write at `0x0100 + S`, then decrement, wrapping without error (R45). -/
def push8 (b : Byte) (s : State) : Except Fault State := do
  let t ← busWrite (stackAddr s.sp) b s
  return t.setSp (s.sp - 1)

/-- `pull8()` (R41): increment, then read at `0x0100 + S`. -/
def pull8 (s : State) : Except Fault (Byte × State) := busRead (stackAddr (s.sp + 1)) (s.setSp (s.sp + 1))

/-- `push16(w)`: the high byte, then the low byte (R42). -/
def push16 (w : Word) (s : State) : Except Fault State := do
  let s ← push8 (high w) s
  push8 (low w) s

/-- `pull16()`: the low byte, then the high byte (R43). -/
def pull16 (s : State) : Except Fault (Word × State) := do
  let (l, s) ← pull8 s
  let (h, s) ← pull8 s
  return (word h l, s)

/-- `peek()` (R44, D20): the byte the next pull would return; the stack pointer stays. No instruction uses it. -/
def peek8 (s : State) : Except Fault (Byte × State) := busRead (stackAddr (s.sp + 1)) s

/-- `push16`, and what `pull16` returns and leaves, where the slots are claimed (R42, R43). -/
def State.pushWord (s : State) (w : Word) : State := (s.push (high w)).push (low w)
def State.topWord (s : State) : Word := word s.pop.top s.top
def State.popWord (s : State) : State := s.pop.pop

/-! ## Entry through a vector, return, reset -/

/-- The NMI vector (R84). -/
def nmiVector : Word := 0xFFFA

/-- The reset vector (R84). -/
def resetVector : Word := 0xFFFC

/-- The IRQ and BRK vector (R84). -/
def irqVector : Word := 0xFFFE

/-- Taking an exception, the sequence BRK, IRQ and NMI share (R309, R311): push PC, push a status byte, set I (D7), load PC from
the vector. -/
def enter (status : Byte) (vector : Word) (s : State) : Except Fault State := do
  let s ← push16 s.pc s
  let s ← push8 status s
  let s := s.setP { s.p with i := s.p.i || Config.entrySetsI }
  let (target, s) ← readWord vector s
  return s.setPc target

/-- The state an entry leaves where every byte is claimed: after the three pushes and the setting of I, then with PC loaded. -/
def State.saved (s : State) (status : Byte) : State :=
  ((s.pushWord s.pc).push status).setP { s.p with i := s.p.i || Config.entrySetsI }
def State.entered (s : State) (status : Byte) (vector : Word) : State :=
  ((s.saved status).touchWord vector).setPc ((s.saved status).wordAt vector)

/-- `interrupt_entry(vec)` (R309): IRQ and NMI push `interrupt_value(P)`. -/
def interruptEntry (vector : Word) (s : State) : Except Fault State := enter (interruptValue s.p) vector s

/-- The return from an entry (R248, R312): pull the status byte and assign it, then pull PC, no increment. -/
def returnFromEntry (s : State) : Except Fault State := do
  let (b, s) ← pull8 s
  let s := s.setP (assign b)
  let (target, s) ← pull16 s
  return s.setPc target

/-- The state the return leaves where every byte is claimed. -/
def State.returned (s : State) : State :=
  ((s.pop.setP (assign s.top)).popWord).setPc (s.pop.setP (assign s.top)).topWord

/-- The reset step (R340): nothing is pushed, no memory is written; A, X, Y and the flags C, Z, D, V, N stay. -/
def resetSequence (s : State) : Except Fault State := do
  let s := (s.setSp 0xFF).setP { s.p with i := Config.resetI }
  let (target, s) ← readWord resetVector s
  return ((s.setPc target).setResetPending false).setNmiPending false

/-- The state the reset step leaves where the vector is claimed. -/
def State.resetDone (s : State) : State :=
  let u := (s.setSp 0xFF).setP { s.p with i := Config.resetI }
  (((u.touchWord resetVector).setPc (u.wordAt resetVector)).setResetPending false).setNmiPending false

/-- The outcome of a computation that either leaves a state or faults. -/
def outcome (r : Except Fault State) : Host.Outcome State Fault Refusal :=
  match r with
  | .ok s => .next s
  | .error f => .fault f

end Sys2Proof.Machine
end

