-- ==== Sys2Proof/Machine/Operands.lean ====
section
/-! DEFINITION. The operand shapes and proxies (40_addressing_and_step.md R133 to R136, R150) and the thirteen addressing modes
(R137 to R149), each written once. -/

namespace Sys2Proof.Machine

/-- A Reference: the accumulator, or the byte at a bus address (R133). Building one touches nothing (R134). -/
inductive Ref where
  | acc
  | mem (a : Word)
  deriving DecidableEq, Repr

/-- A value operand: an immediate Byte, or a Reference read once (R133, R136, R150). -/
inductive ValueOperand where
  | imm (b : Byte)
  | ref (r : Ref)
  deriving DecidableEq, Repr

/-- The modes whose operand is a Reference to memory, with the operand bytes fetched (R103). -/
inductive MemForm where
  | zp (d8 : Byte)
  | zpx (d8 : Byte)
  | zpy (d8 : Byte)
  | abs (d16 : Word)
  | abx (d16 : Word)
  | aby (d16 : Word)
  | izx (d8 : Byte)
  | izy (d8 : Byte)
  deriving DecidableEq, Repr

/-- Where the pointer of a form lies, for the two forms that read one (R147, R148). -/
def MemForm.pointer (f : MemForm) (s : State) : Option Word :=
  match f with
  | .izx d8 => some (zext (d8 + s.x))
  | .izy d8 => some (zext d8)
  | _ => none

/-- The address of a form, given the word its pointer holds (read by the two indirect forms only): R140 to R145, R147, R148. Zero
page sums are Byte sums (D15), the others Word sums. -/
def MemForm.address (f : MemForm) (s : State) (pointed : Word) : Word :=
  match f with
  | .zp d8 => zext d8
  | .zpx d8 => zext (d8 + s.x)
  | .zpy d8 => zext (d8 + s.y)
  | .abs d16 => d16
  | .abx d16 => d16 + zext s.x
  | .aby d16 => d16 + zext s.y
  | .izx _ => pointed
  | .izy _ => pointed + zext s.y

/-- `resolve(mode)` for the memory forms: the address, and the state after the pointer's two reads if the form makes them. -/
def resolve (f : MemForm) (s : State) : Except Fault (Word × State) :=
  match f.pointer s with
  | none => .ok (f.address s 0, s)
  | some p => do
    let (w, t) ← readWord p s
    return (f.address s w, t)

/-- The effective address of a form, and the state after the mode's own reads, where the pointer's bytes are claimed. -/
def State.effective (s : State) (f : MemForm) : Word :=
  match f.pointer s with
  | none => f.address s 0
  | some p => f.address s (s.wordAt p)

def State.afterMode (s : State) (f : MemForm) : State :=
  match f.pointer s with
  | none => s
  | some p => s.touchWord p

/-- The byte a memory form reads, and the state after that read. -/
def State.operand (s : State) (f : MemForm) : Byte := (s.afterMode f).byteAt (s.effective f)
def State.afterOperand (s : State) (f : MemForm) : State := (s.afterMode f).touch (s.effective f)

/-- `RefRead(r)` (R134): the accumulator with no bus event, or one bus read. -/
def refRead (r : Ref) (s : State) : Except Fault (Byte × State) :=
  match r with
  | .acc => .ok (s.a, s)
  | .mem a => busRead a s

/-- `RefWrite(r, v)` (R135): the accumulator with no bus event, or one bus write. -/
def refWrite (r : Ref) (v : Byte) (s : State) : Except Fault State :=
  match r with
  | .acc => .ok (s.setA v)
  | .mem a => busWrite a v s

/-- `Value(o)` (R136). -/
def value (o : ValueOperand) (s : State) : Except Fault (Byte × State) :=
  match o with
  | .imm b => .ok (b, s)
  | .ref r => refRead r s

/-- The Pointer of mode REL (R149): PC already points at the next instruction. -/
def relTarget (d8 : Byte) (s : State) : Word := s.pc + sext d8

/-- The Pointer of mode IND (R146). -/
def indTarget (d16 : Word) (s : State) : Except Fault (Word × State) := readWord d16 s

/-- Run an operation on the Reference a memory form resolves to. -/
def onMemory (f : MemForm) (op : Ref → State → Except Fault State) (s : State) : Host.Outcome State Fault Refusal :=
  outcome do
    let (a, t) ← resolve f s
    op (.mem a) t

/-- Run an operation on the value operand a memory form resolves to. -/
def onValue (f : MemForm) (op : ValueOperand → State → Except Fault State) (s : State) : Host.Outcome State Fault Refusal :=
  onMemory f (fun r => op (.ref r)) s

end Sys2Proof.Machine
end

