-- ==== Sys2Proof/Machine/Arithmetic.lean ====
section
/-! DEFINITION. Add, subtract, increment and decrement (42_arithmetic.md R190 to R198). All arithmetic wraps, nothing traps, and
the decimal flag has no effect (R198, D10). -/

namespace Sys2Proof.Machine

/-- ADC (R190). -/
def opAdc (o : ValueOperand) (s : State) : Except Fault State := do
  let (m, t) ← value o s
  return t.addToA m

/-- SBC (R191, C2): ADC's own computation on the one's complement of the operand. -/
def opSbc (o : ValueOperand) (s : State) : Except Fault State := do
  let (m, t) ← value o s
  return t.addToA (m ^^^ 0xFF)

/-- INC (R192): one read, one write, then Z and N; C and V are not written. -/
def opInc (r : Ref) (s : State) : Except Fault State := do
  let (m, t) ← refRead r s
  let u ← refWrite r (m + 1) t
  return u.setP (logical u.p (m + 1))

/-- DEC (R193). -/
def opDec (r : Ref) (s : State) : Except Fault State := do
  let (m, t) ← refRead r s
  let u ← refWrite r (m - 1) t
  return u.setP (logical u.p (m - 1))

/-- `ADC #$nn` (R190, R139). -/
def execAdcImm (d8 : Byte) (s : State) : Host.Outcome State Fault Refusal := outcome (opAdc (.imm d8) s)

/-- `ADC $nn` (R190, R140). -/
def execAdcZp (d8 : Byte) (s : State) : Host.Outcome State Fault Refusal := onValue (.zp d8) opAdc s

/-- `ADC $nn,X` (R190, R141). -/
def execAdcZpx (d8 : Byte) (s : State) : Host.Outcome State Fault Refusal := onValue (.zpx d8) opAdc s

/-- `ADC $nnnn` (R190, R143). -/
def execAdcAbs (d16 : Word) (s : State) : Host.Outcome State Fault Refusal := onValue (.abs d16) opAdc s

/-- `ADC $nnnn,X` (R190, R144). -/
def execAdcAbx (d16 : Word) (s : State) : Host.Outcome State Fault Refusal := onValue (.abx d16) opAdc s

/-- `ADC $nnnn,Y` (R190, R145). -/
def execAdcAby (d16 : Word) (s : State) : Host.Outcome State Fault Refusal := onValue (.aby d16) opAdc s

/-- `ADC ($nn,X)` (R190, R147). -/
def execAdcIzx (d8 : Byte) (s : State) : Host.Outcome State Fault Refusal := onValue (.izx d8) opAdc s

/-- `ADC ($nn),Y` (R190, R148). -/
def execAdcIzy (d8 : Byte) (s : State) : Host.Outcome State Fault Refusal := onValue (.izy d8) opAdc s

/-- `SBC #$nn` (R191, R139). -/
def execSbcImm (d8 : Byte) (s : State) : Host.Outcome State Fault Refusal := outcome (opSbc (.imm d8) s)

/-- `SBC $nn` (R191, R140). -/
def execSbcZp (d8 : Byte) (s : State) : Host.Outcome State Fault Refusal := onValue (.zp d8) opSbc s

/-- `SBC $nn,X` (R191, R141). -/
def execSbcZpx (d8 : Byte) (s : State) : Host.Outcome State Fault Refusal := onValue (.zpx d8) opSbc s

/-- `SBC $nnnn` (R191, R143). -/
def execSbcAbs (d16 : Word) (s : State) : Host.Outcome State Fault Refusal := onValue (.abs d16) opSbc s

/-- `SBC $nnnn,X` (R191, R144). -/
def execSbcAbx (d16 : Word) (s : State) : Host.Outcome State Fault Refusal := onValue (.abx d16) opSbc s

/-- `SBC $nnnn,Y` (R191, R145). -/
def execSbcAby (d16 : Word) (s : State) : Host.Outcome State Fault Refusal := onValue (.aby d16) opSbc s

/-- `SBC ($nn,X)` (R191, R147). -/
def execSbcIzx (d8 : Byte) (s : State) : Host.Outcome State Fault Refusal := onValue (.izx d8) opSbc s

/-- `SBC ($nn),Y` (R191, R148). -/
def execSbcIzy (d8 : Byte) (s : State) : Host.Outcome State Fault Refusal := onValue (.izy d8) opSbc s

/-- `INC $nn` (R192, R140). -/
def execIncZp (d8 : Byte) (s : State) : Host.Outcome State Fault Refusal := onMemory (.zp d8) opInc s

/-- `INC $nn,X` (R192, R141). -/
def execIncZpx (d8 : Byte) (s : State) : Host.Outcome State Fault Refusal := onMemory (.zpx d8) opInc s

/-- `INC $nnnn` (R192, R143). -/
def execIncAbs (d16 : Word) (s : State) : Host.Outcome State Fault Refusal := onMemory (.abs d16) opInc s

/-- `INC $nnnn,X` (R192, R144). -/
def execIncAbx (d16 : Word) (s : State) : Host.Outcome State Fault Refusal := onMemory (.abx d16) opInc s

/-- `DEC $nn` (R193, R140). -/
def execDecZp (d8 : Byte) (s : State) : Host.Outcome State Fault Refusal := onMemory (.zp d8) opDec s

/-- `DEC $nn,X` (R193, R141). -/
def execDecZpx (d8 : Byte) (s : State) : Host.Outcome State Fault Refusal := onMemory (.zpx d8) opDec s

/-- `DEC $nnnn` (R193, R143). -/
def execDecAbs (d16 : Word) (s : State) : Host.Outcome State Fault Refusal := onMemory (.abs d16) opDec s

/-- `DEC $nnnn,X` (R193, R144). -/
def execDecAbx (d16 : Word) (s : State) : Host.Outcome State Fault Refusal := onMemory (.abx d16) opDec s

/-- `INX` (R194, R137). -/
def execInx (s : State) : Host.Outcome State Fault Refusal := .next (s.loadX (s.x + 1))

/-- `INY` (R195, R137). -/
def execIny (s : State) : Host.Outcome State Fault Refusal := .next (s.loadY (s.y + 1))

/-- `DEX` (R196, R137). -/
def execDex (s : State) : Host.Outcome State Fault Refusal := .next (s.loadX (s.x - 1))

/-- `DEY` (R197, R137). -/
def execDey (s : State) : Host.Outcome State Fault Refusal := .next (s.loadY (s.y - 1))

end Sys2Proof.Machine
end

