-- ==== Sys2Proof/Machine/Bitwise.lean ====
section
/-! DEFINITION. Bitwise operations, shifts, rotates and the bit test (43_bitwise_shift.md R210 to R217). -/

namespace Sys2Proof.Machine

/-- AND (R210). -/
def opAnd (o : ValueOperand) (s : State) : Except Fault State := do
  let (m, t) ← value o s
  return t.loadA (t.a &&& m)

/-- ORA (R211). -/
def opOra (o : ValueOperand) (s : State) : Except Fault State := do
  let (m, t) ← value o s
  return t.loadA (t.a ||| m)

/-- EOR (R212). -/
def opEor (o : ValueOperand) (s : State) : Except Fault State := do
  let (m, t) ← value o s
  return t.loadA (t.a ^^^ m)

/-- Read a Reference, shift or rotate the byte, write it back, then Z and N from the result and C from the bit shifted out: the
shape of R213 to R216. -/
def shiftRef (f : Byte → Byte × Bool) (r : Ref) (s : State) : Except Fault State := do
  let (m, t) ← refRead r s
  let u ← refWrite r (f m).1 t
  return u.setP (shiftFlags u.p (f m))

/-- ASL (R213). -/
def opAsl (r : Ref) (s : State) : Except Fault State := shiftRef (fun m => shiftLeft m false) r s

/-- LSR (R214, C1). -/
def opLsr (r : Ref) (s : State) : Except Fault State := shiftRef (fun m => shiftRight m false) r s

/-- ROL (R215): the carry that enters is the carry before the instruction. -/
def opRol (r : Ref) (s : State) : Except Fault State := shiftRef (fun m => rotateLeft m s.p.c) r s

/-- ROR (R216). -/
def opRor (r : Ref) (s : State) : Except Fault State := shiftRef (fun m => rotateRight m s.p.c) r s

/-- BIT (R217, C3): the accumulator and memory are unchanged. -/
def opBit (r : Ref) (s : State) : Except Fault State := do
  let (m, t) ← refRead r s
  return t.setP (bitTestFlags t.p t.a m)

/-- `AND #$nn` (R210, R139). -/
def execAndImm (d8 : Byte) (s : State) : Host.Outcome State Fault Refusal := outcome (opAnd (.imm d8) s)

/-- `AND $nn` (R210, R140). -/
def execAndZp (d8 : Byte) (s : State) : Host.Outcome State Fault Refusal := onValue (.zp d8) opAnd s

/-- `AND $nn,X` (R210, R141). -/
def execAndZpx (d8 : Byte) (s : State) : Host.Outcome State Fault Refusal := onValue (.zpx d8) opAnd s

/-- `AND $nnnn` (R210, R143). -/
def execAndAbs (d16 : Word) (s : State) : Host.Outcome State Fault Refusal := onValue (.abs d16) opAnd s

/-- `AND $nnnn,X` (R210, R144). -/
def execAndAbx (d16 : Word) (s : State) : Host.Outcome State Fault Refusal := onValue (.abx d16) opAnd s

/-- `AND $nnnn,Y` (R210, R145). -/
def execAndAby (d16 : Word) (s : State) : Host.Outcome State Fault Refusal := onValue (.aby d16) opAnd s

/-- `AND ($nn,X)` (R210, R147). -/
def execAndIzx (d8 : Byte) (s : State) : Host.Outcome State Fault Refusal := onValue (.izx d8) opAnd s

/-- `AND ($nn),Y` (R210, R148). -/
def execAndIzy (d8 : Byte) (s : State) : Host.Outcome State Fault Refusal := onValue (.izy d8) opAnd s

/-- `ORA #$nn` (R211, R139). -/
def execOraImm (d8 : Byte) (s : State) : Host.Outcome State Fault Refusal := outcome (opOra (.imm d8) s)

/-- `ORA $nn` (R211, R140). -/
def execOraZp (d8 : Byte) (s : State) : Host.Outcome State Fault Refusal := onValue (.zp d8) opOra s

/-- `ORA $nn,X` (R211, R141). -/
def execOraZpx (d8 : Byte) (s : State) : Host.Outcome State Fault Refusal := onValue (.zpx d8) opOra s

/-- `ORA $nnnn` (R211, R143). -/
def execOraAbs (d16 : Word) (s : State) : Host.Outcome State Fault Refusal := onValue (.abs d16) opOra s

/-- `ORA $nnnn,X` (R211, R144). -/
def execOraAbx (d16 : Word) (s : State) : Host.Outcome State Fault Refusal := onValue (.abx d16) opOra s

/-- `ORA $nnnn,Y` (R211, R145). -/
def execOraAby (d16 : Word) (s : State) : Host.Outcome State Fault Refusal := onValue (.aby d16) opOra s

/-- `ORA ($nn,X)` (R211, R147). -/
def execOraIzx (d8 : Byte) (s : State) : Host.Outcome State Fault Refusal := onValue (.izx d8) opOra s

/-- `ORA ($nn),Y` (R211, R148). -/
def execOraIzy (d8 : Byte) (s : State) : Host.Outcome State Fault Refusal := onValue (.izy d8) opOra s

/-- `EOR #$nn` (R212, R139). -/
def execEorImm (d8 : Byte) (s : State) : Host.Outcome State Fault Refusal := outcome (opEor (.imm d8) s)

/-- `EOR $nn` (R212, R140). -/
def execEorZp (d8 : Byte) (s : State) : Host.Outcome State Fault Refusal := onValue (.zp d8) opEor s

/-- `EOR $nn,X` (R212, R141). -/
def execEorZpx (d8 : Byte) (s : State) : Host.Outcome State Fault Refusal := onValue (.zpx d8) opEor s

/-- `EOR $nnnn` (R212, R143). -/
def execEorAbs (d16 : Word) (s : State) : Host.Outcome State Fault Refusal := onValue (.abs d16) opEor s

/-- `EOR $nnnn,X` (R212, R144). -/
def execEorAbx (d16 : Word) (s : State) : Host.Outcome State Fault Refusal := onValue (.abx d16) opEor s

/-- `EOR $nnnn,Y` (R212, R145). -/
def execEorAby (d16 : Word) (s : State) : Host.Outcome State Fault Refusal := onValue (.aby d16) opEor s

/-- `EOR ($nn,X)` (R212, R147). -/
def execEorIzx (d8 : Byte) (s : State) : Host.Outcome State Fault Refusal := onValue (.izx d8) opEor s

/-- `EOR ($nn),Y` (R212, R148). -/
def execEorIzy (d8 : Byte) (s : State) : Host.Outcome State Fault Refusal := onValue (.izy d8) opEor s

/-- `ASL A` (R213, R138). -/
def execAslAcc (s : State) : Host.Outcome State Fault Refusal := outcome (opAsl .acc s)

/-- `ASL $nn` (R213, R140). -/
def execAslZp (d8 : Byte) (s : State) : Host.Outcome State Fault Refusal := onMemory (.zp d8) opAsl s

/-- `ASL $nn,X` (R213, R141). -/
def execAslZpx (d8 : Byte) (s : State) : Host.Outcome State Fault Refusal := onMemory (.zpx d8) opAsl s

/-- `ASL $nnnn` (R213, R143). -/
def execAslAbs (d16 : Word) (s : State) : Host.Outcome State Fault Refusal := onMemory (.abs d16) opAsl s

/-- `ASL $nnnn,X` (R213, R144). -/
def execAslAbx (d16 : Word) (s : State) : Host.Outcome State Fault Refusal := onMemory (.abx d16) opAsl s

/-- `LSR A` (R214, R138). -/
def execLsrAcc (s : State) : Host.Outcome State Fault Refusal := outcome (opLsr .acc s)

/-- `LSR $nn` (R214, R140). -/
def execLsrZp (d8 : Byte) (s : State) : Host.Outcome State Fault Refusal := onMemory (.zp d8) opLsr s

/-- `LSR $nn,X` (R214, R141). -/
def execLsrZpx (d8 : Byte) (s : State) : Host.Outcome State Fault Refusal := onMemory (.zpx d8) opLsr s

/-- `LSR $nnnn` (R214, R143). -/
def execLsrAbs (d16 : Word) (s : State) : Host.Outcome State Fault Refusal := onMemory (.abs d16) opLsr s

/-- `LSR $nnnn,X` (R214, R144). -/
def execLsrAbx (d16 : Word) (s : State) : Host.Outcome State Fault Refusal := onMemory (.abx d16) opLsr s

/-- `ROL A` (R215, R138). -/
def execRolAcc (s : State) : Host.Outcome State Fault Refusal := outcome (opRol .acc s)

/-- `ROL $nn` (R215, R140). -/
def execRolZp (d8 : Byte) (s : State) : Host.Outcome State Fault Refusal := onMemory (.zp d8) opRol s

/-- `ROL $nn,X` (R215, R141). -/
def execRolZpx (d8 : Byte) (s : State) : Host.Outcome State Fault Refusal := onMemory (.zpx d8) opRol s

/-- `ROL $nnnn` (R215, R143). -/
def execRolAbs (d16 : Word) (s : State) : Host.Outcome State Fault Refusal := onMemory (.abs d16) opRol s

/-- `ROL $nnnn,X` (R215, R144). -/
def execRolAbx (d16 : Word) (s : State) : Host.Outcome State Fault Refusal := onMemory (.abx d16) opRol s

/-- `ROR A` (R216, R138). -/
def execRorAcc (s : State) : Host.Outcome State Fault Refusal := outcome (opRor .acc s)

/-- `ROR $nn` (R216, R140). -/
def execRorZp (d8 : Byte) (s : State) : Host.Outcome State Fault Refusal := onMemory (.zp d8) opRor s

/-- `ROR $nn,X` (R216, R141). -/
def execRorZpx (d8 : Byte) (s : State) : Host.Outcome State Fault Refusal := onMemory (.zpx d8) opRor s

/-- `ROR $nnnn` (R216, R143). -/
def execRorAbs (d16 : Word) (s : State) : Host.Outcome State Fault Refusal := onMemory (.abs d16) opRor s

/-- `ROR $nnnn,X` (R216, R144). -/
def execRorAbx (d16 : Word) (s : State) : Host.Outcome State Fault Refusal := onMemory (.abx d16) opRor s

/-- `BIT $nn` (R217, R140). -/
def execBitZp (d8 : Byte) (s : State) : Host.Outcome State Fault Refusal := onMemory (.zp d8) opBit s

/-- `BIT $nnnn` (R217, R143). -/
def execBitAbs (d16 : Word) (s : State) : Host.Outcome State Fault Refusal := onMemory (.abs d16) opBit s

end Sys2Proof.Machine
end

