-- ==== Sys2Proof/Machine/Branch.lean ====
section
/-! DEFINITION. The eight conditional branches (44_branch.md R230 to R238). No flag is written; PC only when taken. -/

namespace Sys2Proof.Machine

/-- The common branch rule (R230): the Pointer of mode REL is taken when the condition holds; otherwise PC already points at the
next instruction. -/
def branchIf (taken : Bool) (d8 : Byte) (s : State) : State := if taken then s.setPc (relTarget d8 s) else s

/-- `BCC $nnnn` (R231, R149). -/
def execBcc (d8 : Byte) (s : State) : Host.Outcome State Fault Refusal := .next (branchIf (!s.p.c) d8 s)

/-- `BCS $nnnn` (R232, R149). -/
def execBcs (d8 : Byte) (s : State) : Host.Outcome State Fault Refusal := .next (branchIf s.p.c d8 s)

/-- `BEQ $nnnn` (R233, R149). -/
def execBeq (d8 : Byte) (s : State) : Host.Outcome State Fault Refusal := .next (branchIf s.p.z d8 s)

/-- `BNE $nnnn` (R234, R149). -/
def execBne (d8 : Byte) (s : State) : Host.Outcome State Fault Refusal := .next (branchIf (!s.p.z) d8 s)

/-- `BMI $nnnn` (R235, R149). -/
def execBmi (d8 : Byte) (s : State) : Host.Outcome State Fault Refusal := .next (branchIf s.p.n d8 s)

/-- `BPL $nnnn` (R236, R149). -/
def execBpl (d8 : Byte) (s : State) : Host.Outcome State Fault Refusal := .next (branchIf (!s.p.n) d8 s)

/-- `BVC $nnnn` (R237, R149). -/
def execBvc (d8 : Byte) (s : State) : Host.Outcome State Fault Refusal := .next (branchIf (!s.p.v) d8 s)

/-- `BVS $nnnn` (R238, R149). -/
def execBvs (d8 : Byte) (s : State) : Host.Outcome State Fault Refusal := .next (branchIf s.p.v d8 s)

end Sys2Proof.Machine
end

