-- ==== Sys2Proof/Machine/FlagCompare.lean ====
section
/-! DEFINITION. Flag instructions and compares (46_flag_compare.md R255 to R265). -/

namespace Sys2Proof.Machine

/-- CMP (R263): rule R262 with the accumulator. -/
def opCmp (o : ValueOperand) (s : State) : Except Fault State := do
  let (m, t) ← value o s
  return t.setP (compareFlags t.p t.a m)

/-- CPX (R264). -/
def opCpx (o : ValueOperand) (s : State) : Except Fault State := do
  let (m, t) ← value o s
  return t.setP (compareFlags t.p t.x m)

/-- CPY (R265). -/
def opCpy (o : ValueOperand) (s : State) : Except Fault State := do
  let (m, t) ← value o s
  return t.setP (compareFlags t.p t.y m)

/-- `CLC` (R255, R137). -/
def execClc (s : State) : Host.Outcome State Fault Refusal := .next (s.setP { s.p with c := false })

/-- `SEC` (R256, R137). -/
def execSec (s : State) : Host.Outcome State Fault Refusal := .next (s.setP { s.p with c := true })

/-- `CLD` (R257, R137). -/
def execCld (s : State) : Host.Outcome State Fault Refusal := .next (s.setP { s.p with d := false })

/-- `SED` (R258, R137). -/
def execSed (s : State) : Host.Outcome State Fault Refusal := .next (s.setP { s.p with d := true })

/-- `CLI` (R259, R137). -/
def execCli (s : State) : Host.Outcome State Fault Refusal := .next (s.setP { s.p with i := false })

/-- `SEI` (R260, R137). -/
def execSei (s : State) : Host.Outcome State Fault Refusal := .next (s.setP { s.p with i := true })

/-- `CLV` (R261, R137). -/
def execClv (s : State) : Host.Outcome State Fault Refusal := .next (s.setP { s.p with v := false })

/-- `CMP #$nn` (R263, R139). -/
def execCmpImm (d8 : Byte) (s : State) : Host.Outcome State Fault Refusal := outcome (opCmp (.imm d8) s)

/-- `CMP $nn` (R263, R140). -/
def execCmpZp (d8 : Byte) (s : State) : Host.Outcome State Fault Refusal := onValue (.zp d8) opCmp s

/-- `CMP $nn,X` (R263, R141). -/
def execCmpZpx (d8 : Byte) (s : State) : Host.Outcome State Fault Refusal := onValue (.zpx d8) opCmp s

/-- `CMP $nnnn` (R263, R143). -/
def execCmpAbs (d16 : Word) (s : State) : Host.Outcome State Fault Refusal := onValue (.abs d16) opCmp s

/-- `CMP $nnnn,X` (R263, R144). -/
def execCmpAbx (d16 : Word) (s : State) : Host.Outcome State Fault Refusal := onValue (.abx d16) opCmp s

/-- `CMP $nnnn,Y` (R263, R145). -/
def execCmpAby (d16 : Word) (s : State) : Host.Outcome State Fault Refusal := onValue (.aby d16) opCmp s

/-- `CMP ($nn,X)` (R263, R147). -/
def execCmpIzx (d8 : Byte) (s : State) : Host.Outcome State Fault Refusal := onValue (.izx d8) opCmp s

/-- `CMP ($nn),Y` (R263, R148). -/
def execCmpIzy (d8 : Byte) (s : State) : Host.Outcome State Fault Refusal := onValue (.izy d8) opCmp s

/-- `CPX #$nn` (R264, R139). -/
def execCpxImm (d8 : Byte) (s : State) : Host.Outcome State Fault Refusal := outcome (opCpx (.imm d8) s)

/-- `CPX $nn` (R264, R140). -/
def execCpxZp (d8 : Byte) (s : State) : Host.Outcome State Fault Refusal := onValue (.zp d8) opCpx s

/-- `CPX $nnnn` (R264, R143). -/
def execCpxAbs (d16 : Word) (s : State) : Host.Outcome State Fault Refusal := onValue (.abs d16) opCpx s

/-- `CPY #$nn` (R265, R139). -/
def execCpyImm (d8 : Byte) (s : State) : Host.Outcome State Fault Refusal := outcome (opCpy (.imm d8) s)

/-- `CPY $nn` (R265, R140). -/
def execCpyZp (d8 : Byte) (s : State) : Host.Outcome State Fault Refusal := onValue (.zp d8) opCpy s

/-- `CPY $nnnn` (R265, R143). -/
def execCpyAbs (d16 : Word) (s : State) : Host.Outcome State Fault Refusal := onValue (.abs d16) opCpy s

end Sys2Proof.Machine
end

