-- ==== Sys2Proof/Machine/Jump.lean ====
section
/-! DEFINITION. Jumps, subroutine call and returns (45_jump_subroutine.md R245 to R248). -/

namespace Sys2Proof.Machine

/-- JSR (R246): PC is past the instruction here, so the word pushed is the address of its last byte. -/
def opJsr (target : Word) (s : State) : Except Fault State := do
  let t ← push16 (s.pc - 1) s
  return t.setPc target

/-- RTS (R247). -/
def opRts (s : State) : Except Fault State := do
  let (w, t) ← pull16 s
  return t.setPc (w + 1)

/-- JMP in mode IND (R245, R146). -/
def opJmpInd (d16 : Word) (s : State) : Except Fault State := do
  let (target, t) ← indTarget d16 s
  return t.setPc target

/-- `JMP $nnnn` (R245, R143). -/
def execJmpAbs (d16 : Word) (s : State) : Host.Outcome State Fault Refusal := .next (s.setPc d16)

/-- `JMP ($nnnn)` (R245, R146). -/
def execJmpInd (d16 : Word) (s : State) : Host.Outcome State Fault Refusal := outcome (opJmpInd d16 s)

/-- `JSR $nnnn` (R246, R143). -/
def execJsr (d16 : Word) (s : State) : Host.Outcome State Fault Refusal := outcome (opJsr d16 s)

/-- `RTS` (R247, R137). -/
def execRts (s : State) : Host.Outcome State Fault Refusal := outcome (opRts s)

/-- `RTI` (R248, R137). -/
def execRti (s : State) : Host.Outcome State Fault Refusal := outcome (returnFromEntry s)

end Sys2Proof.Machine
end

