-- ==== Sys2Proof/Machine/LoadStore.lean ====
section
/-! DEFINITION. Loads, stores and register transfers (41_load_store_transfer.md R170 to R181). PC already points past the
instruction; only a bus access can fault. Shared rules first, then one meaning per opcode row. -/

namespace Sys2Proof.Machine

/-- LDA (R170). -/
def opLda (o : ValueOperand) (s : State) : Except Fault State := do
  let (m, t) ← value o s
  return t.loadA m

/-- LDX (R171). -/
def opLdx (o : ValueOperand) (s : State) : Except Fault State := do
  let (m, t) ← value o s
  return t.loadX m

/-- LDY (R172). -/
def opLdy (o : ValueOperand) (s : State) : Except Fault State := do
  let (m, t) ← value o s
  return t.loadY m

/-- STA (R173): the target is not read, no flag is written. -/
def opSta (r : Ref) (s : State) : Except Fault State := refWrite r s.a s

/-- STX (R174). -/
def opStx (r : Ref) (s : State) : Except Fault State := refWrite r s.x s

/-- STY (R175). -/
def opSty (r : Ref) (s : State) : Except Fault State := refWrite r s.y s

/-- `LDA #$nn` (R170, R139). -/
def execLdaImm (d8 : Byte) (s : State) : Host.Outcome State Fault Refusal := outcome (opLda (.imm d8) s)

/-- `LDA $nn` (R170, R140). -/
def execLdaZp (d8 : Byte) (s : State) : Host.Outcome State Fault Refusal := onValue (.zp d8) opLda s

/-- `LDA $nn,X` (R170, R141). -/
def execLdaZpx (d8 : Byte) (s : State) : Host.Outcome State Fault Refusal := onValue (.zpx d8) opLda s

/-- `LDA $nnnn` (R170, R143). -/
def execLdaAbs (d16 : Word) (s : State) : Host.Outcome State Fault Refusal := onValue (.abs d16) opLda s

/-- `LDA $nnnn,X` (R170, R144). -/
def execLdaAbx (d16 : Word) (s : State) : Host.Outcome State Fault Refusal := onValue (.abx d16) opLda s

/-- `LDA $nnnn,Y` (R170, R145). -/
def execLdaAby (d16 : Word) (s : State) : Host.Outcome State Fault Refusal := onValue (.aby d16) opLda s

/-- `LDA ($nn,X)` (R170, R147). -/
def execLdaIzx (d8 : Byte) (s : State) : Host.Outcome State Fault Refusal := onValue (.izx d8) opLda s

/-- `LDA ($nn),Y` (R170, R148). -/
def execLdaIzy (d8 : Byte) (s : State) : Host.Outcome State Fault Refusal := onValue (.izy d8) opLda s

/-- `LDX #$nn` (R171, R139). -/
def execLdxImm (d8 : Byte) (s : State) : Host.Outcome State Fault Refusal := outcome (opLdx (.imm d8) s)

/-- `LDX $nn` (R171, R140). -/
def execLdxZp (d8 : Byte) (s : State) : Host.Outcome State Fault Refusal := onValue (.zp d8) opLdx s

/-- `LDX $nn,Y` (R171, R142). -/
def execLdxZpy (d8 : Byte) (s : State) : Host.Outcome State Fault Refusal := onValue (.zpy d8) opLdx s

/-- `LDX $nnnn` (R171, R143). -/
def execLdxAbs (d16 : Word) (s : State) : Host.Outcome State Fault Refusal := onValue (.abs d16) opLdx s

/-- `LDX $nnnn,Y` (R171, R145). -/
def execLdxAby (d16 : Word) (s : State) : Host.Outcome State Fault Refusal := onValue (.aby d16) opLdx s

/-- `LDY #$nn` (R172, R139). -/
def execLdyImm (d8 : Byte) (s : State) : Host.Outcome State Fault Refusal := outcome (opLdy (.imm d8) s)

/-- `LDY $nn` (R172, R140). -/
def execLdyZp (d8 : Byte) (s : State) : Host.Outcome State Fault Refusal := onValue (.zp d8) opLdy s

/-- `LDY $nn,X` (R172, R141). -/
def execLdyZpx (d8 : Byte) (s : State) : Host.Outcome State Fault Refusal := onValue (.zpx d8) opLdy s

/-- `LDY $nnnn` (R172, R143). -/
def execLdyAbs (d16 : Word) (s : State) : Host.Outcome State Fault Refusal := onValue (.abs d16) opLdy s

/-- `LDY $nnnn,X` (R172, R144). -/
def execLdyAbx (d16 : Word) (s : State) : Host.Outcome State Fault Refusal := onValue (.abx d16) opLdy s

/-- `STA $nn` (R173, R140). -/
def execStaZp (d8 : Byte) (s : State) : Host.Outcome State Fault Refusal := onMemory (.zp d8) opSta s

/-- `STA $nn,X` (R173, R141). -/
def execStaZpx (d8 : Byte) (s : State) : Host.Outcome State Fault Refusal := onMemory (.zpx d8) opSta s

/-- `STA $nnnn` (R173, R143). -/
def execStaAbs (d16 : Word) (s : State) : Host.Outcome State Fault Refusal := onMemory (.abs d16) opSta s

/-- `STA $nnnn,X` (R173, R144). -/
def execStaAbx (d16 : Word) (s : State) : Host.Outcome State Fault Refusal := onMemory (.abx d16) opSta s

/-- `STA $nnnn,Y` (R173, R145). -/
def execStaAby (d16 : Word) (s : State) : Host.Outcome State Fault Refusal := onMemory (.aby d16) opSta s

/-- `STA ($nn,X)` (R173, R147). -/
def execStaIzx (d8 : Byte) (s : State) : Host.Outcome State Fault Refusal := onMemory (.izx d8) opSta s

/-- `STA ($nn),Y` (R173, R148). -/
def execStaIzy (d8 : Byte) (s : State) : Host.Outcome State Fault Refusal := onMemory (.izy d8) opSta s

/-- `STX $nn` (R174, R140). -/
def execStxZp (d8 : Byte) (s : State) : Host.Outcome State Fault Refusal := onMemory (.zp d8) opStx s

/-- `STX $nn,Y` (R174, R142). -/
def execStxZpy (d8 : Byte) (s : State) : Host.Outcome State Fault Refusal := onMemory (.zpy d8) opStx s

/-- `STX $nnnn` (R174, R143). -/
def execStxAbs (d16 : Word) (s : State) : Host.Outcome State Fault Refusal := onMemory (.abs d16) opStx s

/-- `STY $nn` (R175, R140). -/
def execStyZp (d8 : Byte) (s : State) : Host.Outcome State Fault Refusal := onMemory (.zp d8) opSty s

/-- `STY $nn,X` (R175, R141). -/
def execStyZpx (d8 : Byte) (s : State) : Host.Outcome State Fault Refusal := onMemory (.zpx d8) opSty s

/-- `STY $nnnn` (R175, R143). -/
def execStyAbs (d16 : Word) (s : State) : Host.Outcome State Fault Refusal := onMemory (.abs d16) opSty s

/-- `TAX` (R176, R137). -/
def execTax (s : State) : Host.Outcome State Fault Refusal := .next (s.loadX s.a)

/-- `TAY` (R177, R137). -/
def execTay (s : State) : Host.Outcome State Fault Refusal := .next (s.loadY s.a)

/-- `TXA` (R178, R137). -/
def execTxa (s : State) : Host.Outcome State Fault Refusal := .next (s.loadA s.x)

/-- `TYA` (R179, R137). -/
def execTya (s : State) : Host.Outcome State Fault Refusal := .next (s.loadA s.y)

/-- `TXS` (R180, R137). -/
def execTxs (s : State) : Host.Outcome State Fault Refusal := .next (s.setSp s.x)

/-- `TSX` (R181, R137). -/
def execTsx (s : State) : Host.Outcome State Fault Refusal := .next (s.loadX s.sp)

end Sys2Proof.Machine
end

