-- ==== Sys2Proof/Machine/Stack.lean ====
section
/-! DEFINITION. Stack instructions (47_stack.md R275 to R278). The stack pointer wraps without error (R45). -/

namespace Sys2Proof.Machine

/-- PLA (R277). -/
def opPla (s : State) : Except Fault State := do
  let (m, t) ← pull8 s
  return t.loadA m

/-- PLP (R278): all six flags from the byte, bits 4 and 5 discarded. -/
def opPlp (s : State) : Except Fault State := do
  let (b, t) ← pull8 s
  return t.setP (assign b)

/-- `PHA` (R275, R137). -/
def execPha (s : State) : Host.Outcome State Fault Refusal := outcome (push8 s.a s)

/-- `PHP` (R276, R137). -/
def execPhp (s : State) : Host.Outcome State Fault Refusal := outcome (push8 (instructionValue s.p) s)

/-- `PLA` (R277, R137). -/
def execPla (s : State) : Host.Outcome State Fault Refusal := outcome (opPla s)

/-- `PLP` (R278, R137). -/
def execPlp (s : State) : Host.Outcome State Fault Refusal := outcome (opPlp s)

end Sys2Proof.Machine
end

