-- ==== Sys2Proof/Machine/System.lean ====
section
/-! DEFINITION. NOP and BRK (48_system.md R285, R286). -/

namespace Sys2Proof.Machine

/-- BRK (R286): the byte after the opcode is skipped and not read (D6), then the shared entry through the IRQ vector with the
instruction form of the status byte. -/
def opBrk (s : State) : Except Fault State :=
  enter (instructionValue s.p) irqVector (s.setPc (s.pc + (Config.brkReturnOffset - 1)))

/-- `NOP` (R285, R137). -/
def execNop (s : State) : Host.Outcome State Fault Refusal := .next s

/-- `BRK` (R286, R137). -/
def execBrk (s : State) : Host.Outcome State Fault Refusal := outcome (opBrk s)

end Sys2Proof.Machine
end

