-- ==== Sys2Proof/Syntax.lean ====
section
/-! DEFINITION. The instructions as data: one constructor of `Instr` for each of the 151 rows of spec/opcode_table.json
(30_encoding.md R106, R107), with its operand byte or word (R101, R102), and the two views R104 names: mnemonic and mode. -/

namespace Sys2Proof

/-- The 56 mnemonics (R105). -/
inductive Mnemonic where
  | lda | ldx | ldy | sta | stx | sty | tax | tay | txa | tya | txs | tsx | adc | sbc
  | inc | dec | inx | iny | dex | dey | and | ora | eor | asl | lsr | rol | ror | bit
  | bcc | bcs | beq | bne | bmi | bpl | bvc | bvs | jmp | jsr | rts | rti | clc | sec
  | cld | sed | cli | sei | clv | cmp | cpx | cpy | pha | php | pla | plp | nop | brk
  deriving DecidableEq, Repr

/-- The thirteen addressing modes (R103). -/
inductive Mode where
  | imp | acc | imm | zp | zpx | zpy | abs | abx | aby | ind | izx | izy | rel
  deriving DecidableEq, Repr

/-- The length in bytes of an instruction of a mode (R103). -/
def Mode.length : Mode → Nat
  | .imp | .acc => 1
  | .imm | .zp | .zpx | .zpy | .izx | .izy | .rel => 2
  | .abs | .abx | .aby | .ind => 3

/-- One constructor per opcode row; the name is the mnemonic, and its mode where the mnemonic has more than one. -/
inductive Instr where
  /-- LDA IMM, opcode 0xA9, R170, mode R139 -/
  | ldaImm (d8 : Byte)
  /-- LDA ZP, opcode 0xA5, R170, mode R140 -/
  | ldaZp (d8 : Byte)
  /-- LDA ZPX, opcode 0xB5, R170, mode R141 -/
  | ldaZpx (d8 : Byte)
  /-- LDA ABS, opcode 0xAD, R170, mode R143 -/
  | ldaAbs (d16 : Word)
  /-- LDA ABX, opcode 0xBD, R170, mode R144 -/
  | ldaAbx (d16 : Word)
  /-- LDA ABY, opcode 0xB9, R170, mode R145 -/
  | ldaAby (d16 : Word)
  /-- LDA IZX, opcode 0xA1, R170, mode R147 -/
  | ldaIzx (d8 : Byte)
  /-- LDA IZY, opcode 0xB1, R170, mode R148 -/
  | ldaIzy (d8 : Byte)
  /-- LDX IMM, opcode 0xA2, R171, mode R139 -/
  | ldxImm (d8 : Byte)
  /-- LDX ZP, opcode 0xA6, R171, mode R140 -/
  | ldxZp (d8 : Byte)
  /-- LDX ZPY, opcode 0xB6, R171, mode R142 -/
  | ldxZpy (d8 : Byte)
  /-- LDX ABS, opcode 0xAE, R171, mode R143 -/
  | ldxAbs (d16 : Word)
  /-- LDX ABY, opcode 0xBE, R171, mode R145 -/
  | ldxAby (d16 : Word)
  /-- LDY IMM, opcode 0xA0, R172, mode R139 -/
  | ldyImm (d8 : Byte)
  /-- LDY ZP, opcode 0xA4, R172, mode R140 -/
  | ldyZp (d8 : Byte)
  /-- LDY ZPX, opcode 0xB4, R172, mode R141 -/
  | ldyZpx (d8 : Byte)
  /-- LDY ABS, opcode 0xAC, R172, mode R143 -/
  | ldyAbs (d16 : Word)
  /-- LDY ABX, opcode 0xBC, R172, mode R144 -/
  | ldyAbx (d16 : Word)
  /-- STA ZP, opcode 0x85, R173, mode R140 -/
  | staZp (d8 : Byte)
  /-- STA ZPX, opcode 0x95, R173, mode R141 -/
  | staZpx (d8 : Byte)
  /-- STA ABS, opcode 0x8D, R173, mode R143 -/
  | staAbs (d16 : Word)
  /-- STA ABX, opcode 0x9D, R173, mode R144 -/
  | staAbx (d16 : Word)
  /-- STA ABY, opcode 0x99, R173, mode R145 -/
  | staAby (d16 : Word)
  /-- STA IZX, opcode 0x81, R173, mode R147 -/
  | staIzx (d8 : Byte)
  /-- STA IZY, opcode 0x91, R173, mode R148 -/
  | staIzy (d8 : Byte)
  /-- STX ZP, opcode 0x86, R174, mode R140 -/
  | stxZp (d8 : Byte)
  /-- STX ZPY, opcode 0x96, R174, mode R142 -/
  | stxZpy (d8 : Byte)
  /-- STX ABS, opcode 0x8E, R174, mode R143 -/
  | stxAbs (d16 : Word)
  /-- STY ZP, opcode 0x84, R175, mode R140 -/
  | styZp (d8 : Byte)
  /-- STY ZPX, opcode 0x94, R175, mode R141 -/
  | styZpx (d8 : Byte)
  /-- STY ABS, opcode 0x8C, R175, mode R143 -/
  | styAbs (d16 : Word)
  /-- TAX IMP, opcode 0xAA, R176, mode R137 -/
  | tax
  /-- TAY IMP, opcode 0xA8, R177, mode R137 -/
  | tay
  /-- TXA IMP, opcode 0x8A, R178, mode R137 -/
  | txa
  /-- TYA IMP, opcode 0x98, R179, mode R137 -/
  | tya
  /-- TXS IMP, opcode 0x9A, R180, mode R137 -/
  | txs
  /-- TSX IMP, opcode 0xBA, R181, mode R137 -/
  | tsx
  /-- ADC IMM, opcode 0x69, R190, mode R139 -/
  | adcImm (d8 : Byte)
  /-- ADC ZP, opcode 0x65, R190, mode R140 -/
  | adcZp (d8 : Byte)
  /-- ADC ZPX, opcode 0x75, R190, mode R141 -/
  | adcZpx (d8 : Byte)
  /-- ADC ABS, opcode 0x6D, R190, mode R143 -/
  | adcAbs (d16 : Word)
  /-- ADC ABX, opcode 0x7D, R190, mode R144 -/
  | adcAbx (d16 : Word)
  /-- ADC ABY, opcode 0x79, R190, mode R145 -/
  | adcAby (d16 : Word)
  /-- ADC IZX, opcode 0x61, R190, mode R147 -/
  | adcIzx (d8 : Byte)
  /-- ADC IZY, opcode 0x71, R190, mode R148 -/
  | adcIzy (d8 : Byte)
  /-- SBC IMM, opcode 0xE9, R191, mode R139 -/
  | sbcImm (d8 : Byte)
  /-- SBC ZP, opcode 0xE5, R191, mode R140 -/
  | sbcZp (d8 : Byte)
  /-- SBC ZPX, opcode 0xF5, R191, mode R141 -/
  | sbcZpx (d8 : Byte)
  /-- SBC ABS, opcode 0xED, R191, mode R143 -/
  | sbcAbs (d16 : Word)
  /-- SBC ABX, opcode 0xFD, R191, mode R144 -/
  | sbcAbx (d16 : Word)
  /-- SBC ABY, opcode 0xF9, R191, mode R145 -/
  | sbcAby (d16 : Word)
  /-- SBC IZX, opcode 0xE1, R191, mode R147 -/
  | sbcIzx (d8 : Byte)
  /-- SBC IZY, opcode 0xF1, R191, mode R148 -/
  | sbcIzy (d8 : Byte)
  /-- INC ZP, opcode 0xE6, R192, mode R140 -/
  | incZp (d8 : Byte)
  /-- INC ZPX, opcode 0xF6, R192, mode R141 -/
  | incZpx (d8 : Byte)
  /-- INC ABS, opcode 0xEE, R192, mode R143 -/
  | incAbs (d16 : Word)
  /-- INC ABX, opcode 0xFE, R192, mode R144 -/
  | incAbx (d16 : Word)
  /-- DEC ZP, opcode 0xC6, R193, mode R140 -/
  | decZp (d8 : Byte)
  /-- DEC ZPX, opcode 0xD6, R193, mode R141 -/
  | decZpx (d8 : Byte)
  /-- DEC ABS, opcode 0xCE, R193, mode R143 -/
  | decAbs (d16 : Word)
  /-- DEC ABX, opcode 0xDE, R193, mode R144 -/
  | decAbx (d16 : Word)
  /-- INX IMP, opcode 0xE8, R194, mode R137 -/
  | inx
  /-- INY IMP, opcode 0xC8, R195, mode R137 -/
  | iny
  /-- DEX IMP, opcode 0xCA, R196, mode R137 -/
  | dex
  /-- DEY IMP, opcode 0x88, R197, mode R137 -/
  | dey
  /-- AND IMM, opcode 0x29, R210, mode R139 -/
  | andImm (d8 : Byte)
  /-- AND ZP, opcode 0x25, R210, mode R140 -/
  | andZp (d8 : Byte)
  /-- AND ZPX, opcode 0x35, R210, mode R141 -/
  | andZpx (d8 : Byte)
  /-- AND ABS, opcode 0x2D, R210, mode R143 -/
  | andAbs (d16 : Word)
  /-- AND ABX, opcode 0x3D, R210, mode R144 -/
  | andAbx (d16 : Word)
  /-- AND ABY, opcode 0x39, R210, mode R145 -/
  | andAby (d16 : Word)
  /-- AND IZX, opcode 0x21, R210, mode R147 -/
  | andIzx (d8 : Byte)
  /-- AND IZY, opcode 0x31, R210, mode R148 -/
  | andIzy (d8 : Byte)
  /-- ORA IMM, opcode 0x09, R211, mode R139 -/
  | oraImm (d8 : Byte)
  /-- ORA ZP, opcode 0x05, R211, mode R140 -/
  | oraZp (d8 : Byte)
  /-- ORA ZPX, opcode 0x15, R211, mode R141 -/
  | oraZpx (d8 : Byte)
  /-- ORA ABS, opcode 0x0D, R211, mode R143 -/
  | oraAbs (d16 : Word)
  /-- ORA ABX, opcode 0x1D, R211, mode R144 -/
  | oraAbx (d16 : Word)
  /-- ORA ABY, opcode 0x19, R211, mode R145 -/
  | oraAby (d16 : Word)
  /-- ORA IZX, opcode 0x01, R211, mode R147 -/
  | oraIzx (d8 : Byte)
  /-- ORA IZY, opcode 0x11, R211, mode R148 -/
  | oraIzy (d8 : Byte)
  /-- EOR IMM, opcode 0x49, R212, mode R139 -/
  | eorImm (d8 : Byte)
  /-- EOR ZP, opcode 0x45, R212, mode R140 -/
  | eorZp (d8 : Byte)
  /-- EOR ZPX, opcode 0x55, R212, mode R141 -/
  | eorZpx (d8 : Byte)
  /-- EOR ABS, opcode 0x4D, R212, mode R143 -/
  | eorAbs (d16 : Word)
  /-- EOR ABX, opcode 0x5D, R212, mode R144 -/
  | eorAbx (d16 : Word)
  /-- EOR ABY, opcode 0x59, R212, mode R145 -/
  | eorAby (d16 : Word)
  /-- EOR IZX, opcode 0x41, R212, mode R147 -/
  | eorIzx (d8 : Byte)
  /-- EOR IZY, opcode 0x51, R212, mode R148 -/
  | eorIzy (d8 : Byte)
  /-- ASL ACC, opcode 0x0A, R213, mode R138 -/
  | aslAcc
  /-- ASL ZP, opcode 0x06, R213, mode R140 -/
  | aslZp (d8 : Byte)
  /-- ASL ZPX, opcode 0x16, R213, mode R141 -/
  | aslZpx (d8 : Byte)
  /-- ASL ABS, opcode 0x0E, R213, mode R143 -/
  | aslAbs (d16 : Word)
  /-- ASL ABX, opcode 0x1E, R213, mode R144 -/
  | aslAbx (d16 : Word)
  /-- LSR ACC, opcode 0x4A, R214, mode R138 -/
  | lsrAcc
  /-- LSR ZP, opcode 0x46, R214, mode R140 -/
  | lsrZp (d8 : Byte)
  /-- LSR ZPX, opcode 0x56, R214, mode R141 -/
  | lsrZpx (d8 : Byte)
  /-- LSR ABS, opcode 0x4E, R214, mode R143 -/
  | lsrAbs (d16 : Word)
  /-- LSR ABX, opcode 0x5E, R214, mode R144 -/
  | lsrAbx (d16 : Word)
  /-- ROL ACC, opcode 0x2A, R215, mode R138 -/
  | rolAcc
  /-- ROL ZP, opcode 0x26, R215, mode R140 -/
  | rolZp (d8 : Byte)
  /-- ROL ZPX, opcode 0x36, R215, mode R141 -/
  | rolZpx (d8 : Byte)
  /-- ROL ABS, opcode 0x2E, R215, mode R143 -/
  | rolAbs (d16 : Word)
  /-- ROL ABX, opcode 0x3E, R215, mode R144 -/
  | rolAbx (d16 : Word)
  /-- ROR ACC, opcode 0x6A, R216, mode R138 -/
  | rorAcc
  /-- ROR ZP, opcode 0x66, R216, mode R140 -/
  | rorZp (d8 : Byte)
  /-- ROR ZPX, opcode 0x76, R216, mode R141 -/
  | rorZpx (d8 : Byte)
  /-- ROR ABS, opcode 0x6E, R216, mode R143 -/
  | rorAbs (d16 : Word)
  /-- ROR ABX, opcode 0x7E, R216, mode R144 -/
  | rorAbx (d16 : Word)
  /-- BIT ZP, opcode 0x24, R217, mode R140 -/
  | bitZp (d8 : Byte)
  /-- BIT ABS, opcode 0x2C, R217, mode R143 -/
  | bitAbs (d16 : Word)
  /-- BCC REL, opcode 0x90, R231, mode R149 -/
  | bcc (d8 : Byte)
  /-- BCS REL, opcode 0xB0, R232, mode R149 -/
  | bcs (d8 : Byte)
  /-- BEQ REL, opcode 0xF0, R233, mode R149 -/
  | beq (d8 : Byte)
  /-- BNE REL, opcode 0xD0, R234, mode R149 -/
  | bne (d8 : Byte)
  /-- BMI REL, opcode 0x30, R235, mode R149 -/
  | bmi (d8 : Byte)
  /-- BPL REL, opcode 0x10, R236, mode R149 -/
  | bpl (d8 : Byte)
  /-- BVC REL, opcode 0x50, R237, mode R149 -/
  | bvc (d8 : Byte)
  /-- BVS REL, opcode 0x70, R238, mode R149 -/
  | bvs (d8 : Byte)
  /-- JMP ABS, opcode 0x4C, R245, mode R143 -/
  | jmpAbs (d16 : Word)
  /-- JMP IND, opcode 0x6C, R245, mode R146 -/
  | jmpInd (d16 : Word)
  /-- JSR ABS, opcode 0x20, R246, mode R143 -/
  | jsr (d16 : Word)
  /-- RTS IMP, opcode 0x60, R247, mode R137 -/
  | rts
  /-- RTI IMP, opcode 0x40, R248, mode R137 -/
  | rti
  /-- CLC IMP, opcode 0x18, R255, mode R137 -/
  | clc
  /-- SEC IMP, opcode 0x38, R256, mode R137 -/
  | sec
  /-- CLD IMP, opcode 0xD8, R257, mode R137 -/
  | cld
  /-- SED IMP, opcode 0xF8, R258, mode R137 -/
  | sed
  /-- CLI IMP, opcode 0x58, R259, mode R137 -/
  | cli
  /-- SEI IMP, opcode 0x78, R260, mode R137 -/
  | sei
  /-- CLV IMP, opcode 0xB8, R261, mode R137 -/
  | clv
  /-- CMP IMM, opcode 0xC9, R263, mode R139 -/
  | cmpImm (d8 : Byte)
  /-- CMP ZP, opcode 0xC5, R263, mode R140 -/
  | cmpZp (d8 : Byte)
  /-- CMP ZPX, opcode 0xD5, R263, mode R141 -/
  | cmpZpx (d8 : Byte)
  /-- CMP ABS, opcode 0xCD, R263, mode R143 -/
  | cmpAbs (d16 : Word)
  /-- CMP ABX, opcode 0xDD, R263, mode R144 -/
  | cmpAbx (d16 : Word)
  /-- CMP ABY, opcode 0xD9, R263, mode R145 -/
  | cmpAby (d16 : Word)
  /-- CMP IZX, opcode 0xC1, R263, mode R147 -/
  | cmpIzx (d8 : Byte)
  /-- CMP IZY, opcode 0xD1, R263, mode R148 -/
  | cmpIzy (d8 : Byte)
  /-- CPX IMM, opcode 0xE0, R264, mode R139 -/
  | cpxImm (d8 : Byte)
  /-- CPX ZP, opcode 0xE4, R264, mode R140 -/
  | cpxZp (d8 : Byte)
  /-- CPX ABS, opcode 0xEC, R264, mode R143 -/
  | cpxAbs (d16 : Word)
  /-- CPY IMM, opcode 0xC0, R265, mode R139 -/
  | cpyImm (d8 : Byte)
  /-- CPY ZP, opcode 0xC4, R265, mode R140 -/
  | cpyZp (d8 : Byte)
  /-- CPY ABS, opcode 0xCC, R265, mode R143 -/
  | cpyAbs (d16 : Word)
  /-- PHA IMP, opcode 0x48, R275, mode R137 -/
  | pha
  /-- PHP IMP, opcode 0x08, R276, mode R137 -/
  | php
  /-- PLA IMP, opcode 0x68, R277, mode R137 -/
  | pla
  /-- PLP IMP, opcode 0x28, R278, mode R137 -/
  | plp
  /-- NOP IMP, opcode 0xEA, R285, mode R137 -/
  | nop
  /-- BRK IMP, opcode 0x00, R286, mode R137 -/
  | brk
  deriving DecidableEq, Repr

/-- The mnemonic of an instruction (R104). -/
def Instr.mnemonic : Instr → Mnemonic
  | .ldaImm _ | .ldaZp _ | .ldaZpx _ | .ldaAbs _ | .ldaAbx _ | .ldaAby _ | .ldaIzx _ | .ldaIzy _ => .lda
  | .ldxImm _ | .ldxZp _ | .ldxZpy _ | .ldxAbs _ | .ldxAby _ => .ldx
  | .ldyImm _ | .ldyZp _ | .ldyZpx _ | .ldyAbs _ | .ldyAbx _ => .ldy
  | .staZp _ | .staZpx _ | .staAbs _ | .staAbx _ | .staAby _ | .staIzx _ | .staIzy _ => .sta
  | .stxZp _ | .stxZpy _ | .stxAbs _ => .stx
  | .styZp _ | .styZpx _ | .styAbs _ => .sty
  | .tax => .tax
  | .tay => .tay
  | .txa => .txa
  | .tya => .tya
  | .txs => .txs
  | .tsx => .tsx
  | .adcImm _ | .adcZp _ | .adcZpx _ | .adcAbs _ | .adcAbx _ | .adcAby _ | .adcIzx _ | .adcIzy _ => .adc
  | .sbcImm _ | .sbcZp _ | .sbcZpx _ | .sbcAbs _ | .sbcAbx _ | .sbcAby _ | .sbcIzx _ | .sbcIzy _ => .sbc
  | .incZp _ | .incZpx _ | .incAbs _ | .incAbx _ => .inc
  | .decZp _ | .decZpx _ | .decAbs _ | .decAbx _ => .dec
  | .inx => .inx
  | .iny => .iny
  | .dex => .dex
  | .dey => .dey
  | .andImm _ | .andZp _ | .andZpx _ | .andAbs _ | .andAbx _ | .andAby _ | .andIzx _ | .andIzy _ => .and
  | .oraImm _ | .oraZp _ | .oraZpx _ | .oraAbs _ | .oraAbx _ | .oraAby _ | .oraIzx _ | .oraIzy _ => .ora
  | .eorImm _ | .eorZp _ | .eorZpx _ | .eorAbs _ | .eorAbx _ | .eorAby _ | .eorIzx _ | .eorIzy _ => .eor
  | .aslAcc | .aslZp _ | .aslZpx _ | .aslAbs _ | .aslAbx _ => .asl
  | .lsrAcc | .lsrZp _ | .lsrZpx _ | .lsrAbs _ | .lsrAbx _ => .lsr
  | .rolAcc | .rolZp _ | .rolZpx _ | .rolAbs _ | .rolAbx _ => .rol
  | .rorAcc | .rorZp _ | .rorZpx _ | .rorAbs _ | .rorAbx _ => .ror
  | .bitZp _ | .bitAbs _ => .bit
  | .bcc _ => .bcc
  | .bcs _ => .bcs
  | .beq _ => .beq
  | .bne _ => .bne
  | .bmi _ => .bmi
  | .bpl _ => .bpl
  | .bvc _ => .bvc
  | .bvs _ => .bvs
  | .jmpAbs _ | .jmpInd _ => .jmp
  | .jsr _ => .jsr
  | .rts => .rts
  | .rti => .rti
  | .clc => .clc
  | .sec => .sec
  | .cld => .cld
  | .sed => .sed
  | .cli => .cli
  | .sei => .sei
  | .clv => .clv
  | .cmpImm _ | .cmpZp _ | .cmpZpx _ | .cmpAbs _ | .cmpAbx _ | .cmpAby _ | .cmpIzx _ | .cmpIzy _ => .cmp
  | .cpxImm _ | .cpxZp _ | .cpxAbs _ => .cpx
  | .cpyImm _ | .cpyZp _ | .cpyAbs _ => .cpy
  | .pha => .pha
  | .php => .php
  | .pla => .pla
  | .plp => .plp
  | .nop => .nop
  | .brk => .brk

/-- The addressing mode of an instruction (R104). -/
def Instr.mode : Instr → Mode
  | .tax | .tay | .txa | .tya | .txs | .tsx | .inx | .iny
  | .dex | .dey | .rts | .rti | .clc | .sec | .cld | .sed
  | .cli | .sei | .clv | .pha | .php | .pla | .plp | .nop
  | .brk => .imp
  | .aslAcc | .lsrAcc | .rolAcc | .rorAcc => .acc
  | .ldaImm _ | .ldxImm _ | .ldyImm _ | .adcImm _ | .sbcImm _ | .andImm _ | .oraImm _ | .eorImm _
  | .cmpImm _ | .cpxImm _ | .cpyImm _ => .imm
  | .ldaZp _ | .ldxZp _ | .ldyZp _ | .staZp _ | .stxZp _ | .styZp _ | .adcZp _ | .sbcZp _
  | .incZp _ | .decZp _ | .andZp _ | .oraZp _ | .eorZp _ | .aslZp _ | .lsrZp _ | .rolZp _
  | .rorZp _ | .bitZp _ | .cmpZp _ | .cpxZp _ | .cpyZp _ => .zp
  | .ldaZpx _ | .ldyZpx _ | .staZpx _ | .styZpx _ | .adcZpx _ | .sbcZpx _ | .incZpx _ | .decZpx _
  | .andZpx _ | .oraZpx _ | .eorZpx _ | .aslZpx _ | .lsrZpx _ | .rolZpx _ | .rorZpx _ | .cmpZpx _ => .zpx
  | .ldxZpy _ | .stxZpy _ => .zpy
  | .ldaAbs _ | .ldxAbs _ | .ldyAbs _ | .staAbs _ | .stxAbs _ | .styAbs _ | .adcAbs _ | .sbcAbs _
  | .incAbs _ | .decAbs _ | .andAbs _ | .oraAbs _ | .eorAbs _ | .aslAbs _ | .lsrAbs _ | .rolAbs _
  | .rorAbs _ | .bitAbs _ | .jmpAbs _ | .jsr _ | .cmpAbs _ | .cpxAbs _ | .cpyAbs _ => .abs
  | .ldaAbx _ | .ldyAbx _ | .staAbx _ | .adcAbx _ | .sbcAbx _ | .incAbx _ | .decAbx _ | .andAbx _
  | .oraAbx _ | .eorAbx _ | .aslAbx _ | .lsrAbx _ | .rolAbx _ | .rorAbx _ | .cmpAbx _ => .abx
  | .ldaAby _ | .ldxAby _ | .staAby _ | .adcAby _ | .sbcAby _ | .andAby _ | .oraAby _ | .eorAby _
  | .cmpAby _ => .aby
  | .jmpInd _ => .ind
  | .ldaIzx _ | .staIzx _ | .adcIzx _ | .sbcIzx _ | .andIzx _ | .oraIzx _ | .eorIzx _ | .cmpIzx _ => .izx
  | .ldaIzy _ | .staIzy _ | .adcIzy _ | .sbcIzy _ | .andIzy _ | .oraIzy _ | .eorIzy _ | .cmpIzy _ => .izy
  | .bcc _ | .bcs _ | .beq _ | .bne _ | .bmi _ | .bpl _ | .bvc _ | .bvs _ => .rel

/-- The operand byte of an instruction of two bytes (R102). -/
def Instr.operand8 : Instr → Option Byte
  | .ldaImm b | .ldaZp b | .ldaZpx b | .ldaIzx b | .ldaIzy b | .ldxImm b | .ldxZp b | .ldxZpy b
  | .ldyImm b | .ldyZp b | .ldyZpx b | .staZp b | .staZpx b | .staIzx b | .staIzy b | .stxZp b
  | .stxZpy b | .styZp b | .styZpx b | .adcImm b | .adcZp b | .adcZpx b | .adcIzx b | .adcIzy b
  | .sbcImm b | .sbcZp b | .sbcZpx b | .sbcIzx b | .sbcIzy b | .incZp b | .incZpx b | .decZp b
  | .decZpx b | .andImm b | .andZp b | .andZpx b | .andIzx b | .andIzy b | .oraImm b | .oraZp b
  | .oraZpx b | .oraIzx b | .oraIzy b | .eorImm b | .eorZp b | .eorZpx b | .eorIzx b | .eorIzy b
  | .aslZp b | .aslZpx b | .lsrZp b | .lsrZpx b | .rolZp b | .rolZpx b | .rorZp b | .rorZpx b
  | .bitZp b | .bcc b | .bcs b | .beq b | .bne b | .bmi b | .bpl b | .bvc b
  | .bvs b | .cmpImm b | .cmpZp b | .cmpZpx b | .cmpIzx b | .cmpIzy b | .cpxImm b | .cpxZp b
  | .cpyImm b | .cpyZp b => some b
  | .tax | .tay | .txa | .tya | .txs | .tsx | .inx | .iny
  | .dex | .dey | .aslAcc | .lsrAcc | .rolAcc | .rorAcc | .rts | .rti
  | .clc | .sec | .cld | .sed | .cli | .sei | .clv | .pha
  | .php | .pla | .plp | .nop | .brk => none
  | .ldaAbs _ | .ldaAbx _ | .ldaAby _ | .ldxAbs _ | .ldxAby _ | .ldyAbs _ | .ldyAbx _ | .staAbs _
  | .staAbx _ | .staAby _ | .stxAbs _ | .styAbs _ | .adcAbs _ | .adcAbx _ | .adcAby _ | .sbcAbs _
  | .sbcAbx _ | .sbcAby _ | .incAbs _ | .incAbx _ | .decAbs _ | .decAbx _ | .andAbs _ | .andAbx _
  | .andAby _ | .oraAbs _ | .oraAbx _ | .oraAby _ | .eorAbs _ | .eorAbx _ | .eorAby _ | .aslAbs _
  | .aslAbx _ | .lsrAbs _ | .lsrAbx _ | .rolAbs _ | .rolAbx _ | .rorAbs _ | .rorAbx _ | .bitAbs _
  | .jmpAbs _ | .jmpInd _ | .jsr _ | .cmpAbs _ | .cmpAbx _ | .cmpAby _ | .cpxAbs _ | .cpyAbs _ => none

/-- The operand word of an instruction of three bytes (R102). -/
def Instr.operand16 : Instr → Option Word
  | .ldaAbs w | .ldaAbx w | .ldaAby w | .ldxAbs w | .ldxAby w | .ldyAbs w | .ldyAbx w | .staAbs w
  | .staAbx w | .staAby w | .stxAbs w | .styAbs w | .adcAbs w | .adcAbx w | .adcAby w | .sbcAbs w
  | .sbcAbx w | .sbcAby w | .incAbs w | .incAbx w | .decAbs w | .decAbx w | .andAbs w | .andAbx w
  | .andAby w | .oraAbs w | .oraAbx w | .oraAby w | .eorAbs w | .eorAbx w | .eorAby w | .aslAbs w
  | .aslAbx w | .lsrAbs w | .lsrAbx w | .rolAbs w | .rolAbx w | .rorAbs w | .rorAbx w | .bitAbs w
  | .jmpAbs w | .jmpInd w | .jsr w | .cmpAbs w | .cmpAbx w | .cmpAby w | .cpxAbs w | .cpyAbs w => some w
  | .tax | .tay | .txa | .tya | .txs | .tsx | .inx | .iny
  | .dex | .dey | .aslAcc | .lsrAcc | .rolAcc | .rorAcc | .rts | .rti
  | .clc | .sec | .cld | .sed | .cli | .sei | .clv | .pha
  | .php | .pla | .plp | .nop | .brk => none
  | .ldaImm _ | .ldaZp _ | .ldaZpx _ | .ldaIzx _ | .ldaIzy _ | .ldxImm _ | .ldxZp _ | .ldxZpy _
  | .ldyImm _ | .ldyZp _ | .ldyZpx _ | .staZp _ | .staZpx _ | .staIzx _ | .staIzy _ | .stxZp _
  | .stxZpy _ | .styZp _ | .styZpx _ | .adcImm _ | .adcZp _ | .adcZpx _ | .adcIzx _ | .adcIzy _
  | .sbcImm _ | .sbcZp _ | .sbcZpx _ | .sbcIzx _ | .sbcIzy _ | .incZp _ | .incZpx _ | .decZp _
  | .decZpx _ | .andImm _ | .andZp _ | .andZpx _ | .andIzx _ | .andIzy _ | .oraImm _ | .oraZp _
  | .oraZpx _ | .oraIzx _ | .oraIzy _ | .eorImm _ | .eorZp _ | .eorZpx _ | .eorIzx _ | .eorIzy _
  | .aslZp _ | .aslZpx _ | .lsrZp _ | .lsrZpx _ | .rolZp _ | .rolZpx _ | .rorZp _ | .rorZpx _
  | .bitZp _ | .bcc _ | .bcs _ | .beq _ | .bne _ | .bmi _ | .bpl _ | .bvc _
  | .bvs _ | .cmpImm _ | .cmpZp _ | .cmpZpx _ | .cmpIzx _ | .cmpIzy _ | .cpxImm _ | .cpxZp _
  | .cpyImm _ | .cpyZp _ => none

end Sys2Proof
end

