-- ==== Sys2Proof/Machine/Dispatch.lean ====
section
/-! DEFINITION. The dispatch: one arm per constructor of `Instr`, each one call of that row's meaning. -/

namespace Sys2Proof.Machine

def exec (i : Instr) (s : State) : Host.Outcome State Fault Refusal :=
  match i with
  | .ldaImm d8 => Sys2Proof.Machine.execLdaImm d8 s
  | .ldaZp d8 => Sys2Proof.Machine.execLdaZp d8 s
  | .ldaZpx d8 => Sys2Proof.Machine.execLdaZpx d8 s
  | .ldaAbs d16 => Sys2Proof.Machine.execLdaAbs d16 s
  | .ldaAbx d16 => Sys2Proof.Machine.execLdaAbx d16 s
  | .ldaAby d16 => Sys2Proof.Machine.execLdaAby d16 s
  | .ldaIzx d8 => Sys2Proof.Machine.execLdaIzx d8 s
  | .ldaIzy d8 => Sys2Proof.Machine.execLdaIzy d8 s
  | .ldxImm d8 => Sys2Proof.Machine.execLdxImm d8 s
  | .ldxZp d8 => Sys2Proof.Machine.execLdxZp d8 s
  | .ldxZpy d8 => Sys2Proof.Machine.execLdxZpy d8 s
  | .ldxAbs d16 => Sys2Proof.Machine.execLdxAbs d16 s
  | .ldxAby d16 => Sys2Proof.Machine.execLdxAby d16 s
  | .ldyImm d8 => Sys2Proof.Machine.execLdyImm d8 s
  | .ldyZp d8 => Sys2Proof.Machine.execLdyZp d8 s
  | .ldyZpx d8 => Sys2Proof.Machine.execLdyZpx d8 s
  | .ldyAbs d16 => Sys2Proof.Machine.execLdyAbs d16 s
  | .ldyAbx d16 => Sys2Proof.Machine.execLdyAbx d16 s
  | .staZp d8 => Sys2Proof.Machine.execStaZp d8 s
  | .staZpx d8 => Sys2Proof.Machine.execStaZpx d8 s
  | .staAbs d16 => Sys2Proof.Machine.execStaAbs d16 s
  | .staAbx d16 => Sys2Proof.Machine.execStaAbx d16 s
  | .staAby d16 => Sys2Proof.Machine.execStaAby d16 s
  | .staIzx d8 => Sys2Proof.Machine.execStaIzx d8 s
  | .staIzy d8 => Sys2Proof.Machine.execStaIzy d8 s
  | .stxZp d8 => Sys2Proof.Machine.execStxZp d8 s
  | .stxZpy d8 => Sys2Proof.Machine.execStxZpy d8 s
  | .stxAbs d16 => Sys2Proof.Machine.execStxAbs d16 s
  | .styZp d8 => Sys2Proof.Machine.execStyZp d8 s
  | .styZpx d8 => Sys2Proof.Machine.execStyZpx d8 s
  | .styAbs d16 => Sys2Proof.Machine.execStyAbs d16 s
  | .tax => Sys2Proof.Machine.execTax s
  | .tay => Sys2Proof.Machine.execTay s
  | .txa => Sys2Proof.Machine.execTxa s
  | .tya => Sys2Proof.Machine.execTya s
  | .txs => Sys2Proof.Machine.execTxs s
  | .tsx => Sys2Proof.Machine.execTsx s
  | .adcImm d8 => Sys2Proof.Machine.execAdcImm d8 s
  | .adcZp d8 => Sys2Proof.Machine.execAdcZp d8 s
  | .adcZpx d8 => Sys2Proof.Machine.execAdcZpx d8 s
  | .adcAbs d16 => Sys2Proof.Machine.execAdcAbs d16 s
  | .adcAbx d16 => Sys2Proof.Machine.execAdcAbx d16 s
  | .adcAby d16 => Sys2Proof.Machine.execAdcAby d16 s
  | .adcIzx d8 => Sys2Proof.Machine.execAdcIzx d8 s
  | .adcIzy d8 => Sys2Proof.Machine.execAdcIzy d8 s
  | .sbcImm d8 => Sys2Proof.Machine.execSbcImm d8 s
  | .sbcZp d8 => Sys2Proof.Machine.execSbcZp d8 s
  | .sbcZpx d8 => Sys2Proof.Machine.execSbcZpx d8 s
  | .sbcAbs d16 => Sys2Proof.Machine.execSbcAbs d16 s
  | .sbcAbx d16 => Sys2Proof.Machine.execSbcAbx d16 s
  | .sbcAby d16 => Sys2Proof.Machine.execSbcAby d16 s
  | .sbcIzx d8 => Sys2Proof.Machine.execSbcIzx d8 s
  | .sbcIzy d8 => Sys2Proof.Machine.execSbcIzy d8 s
  | .incZp d8 => Sys2Proof.Machine.execIncZp d8 s
  | .incZpx d8 => Sys2Proof.Machine.execIncZpx d8 s
  | .incAbs d16 => Sys2Proof.Machine.execIncAbs d16 s
  | .incAbx d16 => Sys2Proof.Machine.execIncAbx d16 s
  | .decZp d8 => Sys2Proof.Machine.execDecZp d8 s
  | .decZpx d8 => Sys2Proof.Machine.execDecZpx d8 s
  | .decAbs d16 => Sys2Proof.Machine.execDecAbs d16 s
  | .decAbx d16 => Sys2Proof.Machine.execDecAbx d16 s
  | .inx => Sys2Proof.Machine.execInx s
  | .iny => Sys2Proof.Machine.execIny s
  | .dex => Sys2Proof.Machine.execDex s
  | .dey => Sys2Proof.Machine.execDey s
  | .andImm d8 => Sys2Proof.Machine.execAndImm d8 s
  | .andZp d8 => Sys2Proof.Machine.execAndZp d8 s
  | .andZpx d8 => Sys2Proof.Machine.execAndZpx d8 s
  | .andAbs d16 => Sys2Proof.Machine.execAndAbs d16 s
  | .andAbx d16 => Sys2Proof.Machine.execAndAbx d16 s
  | .andAby d16 => Sys2Proof.Machine.execAndAby d16 s
  | .andIzx d8 => Sys2Proof.Machine.execAndIzx d8 s
  | .andIzy d8 => Sys2Proof.Machine.execAndIzy d8 s
  | .oraImm d8 => Sys2Proof.Machine.execOraImm d8 s
  | .oraZp d8 => Sys2Proof.Machine.execOraZp d8 s
  | .oraZpx d8 => Sys2Proof.Machine.execOraZpx d8 s
  | .oraAbs d16 => Sys2Proof.Machine.execOraAbs d16 s
  | .oraAbx d16 => Sys2Proof.Machine.execOraAbx d16 s
  | .oraAby d16 => Sys2Proof.Machine.execOraAby d16 s
  | .oraIzx d8 => Sys2Proof.Machine.execOraIzx d8 s
  | .oraIzy d8 => Sys2Proof.Machine.execOraIzy d8 s
  | .eorImm d8 => Sys2Proof.Machine.execEorImm d8 s
  | .eorZp d8 => Sys2Proof.Machine.execEorZp d8 s
  | .eorZpx d8 => Sys2Proof.Machine.execEorZpx d8 s
  | .eorAbs d16 => Sys2Proof.Machine.execEorAbs d16 s
  | .eorAbx d16 => Sys2Proof.Machine.execEorAbx d16 s
  | .eorAby d16 => Sys2Proof.Machine.execEorAby d16 s
  | .eorIzx d8 => Sys2Proof.Machine.execEorIzx d8 s
  | .eorIzy d8 => Sys2Proof.Machine.execEorIzy d8 s
  | .aslAcc => Sys2Proof.Machine.execAslAcc s
  | .aslZp d8 => Sys2Proof.Machine.execAslZp d8 s
  | .aslZpx d8 => Sys2Proof.Machine.execAslZpx d8 s
  | .aslAbs d16 => Sys2Proof.Machine.execAslAbs d16 s
  | .aslAbx d16 => Sys2Proof.Machine.execAslAbx d16 s
  | .lsrAcc => Sys2Proof.Machine.execLsrAcc s
  | .lsrZp d8 => Sys2Proof.Machine.execLsrZp d8 s
  | .lsrZpx d8 => Sys2Proof.Machine.execLsrZpx d8 s
  | .lsrAbs d16 => Sys2Proof.Machine.execLsrAbs d16 s
  | .lsrAbx d16 => Sys2Proof.Machine.execLsrAbx d16 s
  | .rolAcc => Sys2Proof.Machine.execRolAcc s
  | .rolZp d8 => Sys2Proof.Machine.execRolZp d8 s
  | .rolZpx d8 => Sys2Proof.Machine.execRolZpx d8 s
  | .rolAbs d16 => Sys2Proof.Machine.execRolAbs d16 s
  | .rolAbx d16 => Sys2Proof.Machine.execRolAbx d16 s
  | .rorAcc => Sys2Proof.Machine.execRorAcc s
  | .rorZp d8 => Sys2Proof.Machine.execRorZp d8 s
  | .rorZpx d8 => Sys2Proof.Machine.execRorZpx d8 s
  | .rorAbs d16 => Sys2Proof.Machine.execRorAbs d16 s
  | .rorAbx d16 => Sys2Proof.Machine.execRorAbx d16 s
  | .bitZp d8 => Sys2Proof.Machine.execBitZp d8 s
  | .bitAbs d16 => Sys2Proof.Machine.execBitAbs d16 s
  | .bcc d8 => Sys2Proof.Machine.execBcc d8 s
  | .bcs d8 => Sys2Proof.Machine.execBcs d8 s
  | .beq d8 => Sys2Proof.Machine.execBeq d8 s
  | .bne d8 => Sys2Proof.Machine.execBne d8 s
  | .bmi d8 => Sys2Proof.Machine.execBmi d8 s
  | .bpl d8 => Sys2Proof.Machine.execBpl d8 s
  | .bvc d8 => Sys2Proof.Machine.execBvc d8 s
  | .bvs d8 => Sys2Proof.Machine.execBvs d8 s
  | .jmpAbs d16 => Sys2Proof.Machine.execJmpAbs d16 s
  | .jmpInd d16 => Sys2Proof.Machine.execJmpInd d16 s
  | .jsr d16 => Sys2Proof.Machine.execJsr d16 s
  | .rts => Sys2Proof.Machine.execRts s
  | .rti => Sys2Proof.Machine.execRti s
  | .clc => Sys2Proof.Machine.execClc s
  | .sec => Sys2Proof.Machine.execSec s
  | .cld => Sys2Proof.Machine.execCld s
  | .sed => Sys2Proof.Machine.execSed s
  | .cli => Sys2Proof.Machine.execCli s
  | .sei => Sys2Proof.Machine.execSei s
  | .clv => Sys2Proof.Machine.execClv s
  | .cmpImm d8 => Sys2Proof.Machine.execCmpImm d8 s
  | .cmpZp d8 => Sys2Proof.Machine.execCmpZp d8 s
  | .cmpZpx d8 => Sys2Proof.Machine.execCmpZpx d8 s
  | .cmpAbs d16 => Sys2Proof.Machine.execCmpAbs d16 s
  | .cmpAbx d16 => Sys2Proof.Machine.execCmpAbx d16 s
  | .cmpAby d16 => Sys2Proof.Machine.execCmpAby d16 s
  | .cmpIzx d8 => Sys2Proof.Machine.execCmpIzx d8 s
  | .cmpIzy d8 => Sys2Proof.Machine.execCmpIzy d8 s
  | .cpxImm d8 => Sys2Proof.Machine.execCpxImm d8 s
  | .cpxZp d8 => Sys2Proof.Machine.execCpxZp d8 s
  | .cpxAbs d16 => Sys2Proof.Machine.execCpxAbs d16 s
  | .cpyImm d8 => Sys2Proof.Machine.execCpyImm d8 s
  | .cpyZp d8 => Sys2Proof.Machine.execCpyZp d8 s
  | .cpyAbs d16 => Sys2Proof.Machine.execCpyAbs d16 s
  | .pha => Sys2Proof.Machine.execPha s
  | .php => Sys2Proof.Machine.execPhp s
  | .pla => Sys2Proof.Machine.execPla s
  | .plp => Sys2Proof.Machine.execPlp s
  | .nop => Sys2Proof.Machine.execNop s
  | .brk => Sys2Proof.Machine.execBrk s

end Sys2Proof.Machine
end

