-- ==== Sys2Proof/Machine/Events.lean ====
section
/-! DEFINITION. The events polled at an instruction boundary (60_exceptions.md R304 to R308), in their order. -/

namespace Sys2Proof.Machine

/-- The event a step serves instead of an instruction, if any: reset, then NMI, then IRQ if I is clear (R130, R306, R307, R308,
D8). Taking an NMI clears its latch; an IRQ leaves the line as the environment drives it (R305). -/
def serveEvent (s : State) : Option (Except Fault State) :=
  if s.resetPending then some (resetSequence s)
  else if s.nmiPending then some (interruptEntry nmiVector (s.setNmiPending false))
  else if s.irqLine && !s.p.i then some (interruptEntry irqVector s)
  else none

end Sys2Proof.Machine
end

