-- ==== Sys2Proof/WellFormed.lean ====
section
/-! DEFINITION. Which instructions exist: the (mnemonic, mode) pairs of 30_encoding.md R107, and the operand an instruction of a
mode has. "A mnemonic and mode pair that has no entry does not exist." -/

namespace Sys2Proof

/-- The modes of each mnemonic (R107, by mnemonic). -/
def Mnemonic.modes : Mnemonic → List Mode
  | .lda | .adc | .sbc | .and | .ora | .eor | .cmp => [.imm, .zp, .zpx, .abs, .abx, .aby, .izx, .izy]
  | .ldx => [.imm, .zp, .zpy, .abs, .aby]
  | .ldy => [.imm, .zp, .zpx, .abs, .abx]
  | .sta => [.zp, .zpx, .abs, .abx, .aby, .izx, .izy]
  | .stx => [.zp, .zpy, .abs]
  | .sty => [.zp, .zpx, .abs]
  | .tax | .tay | .txa | .tya | .txs | .tsx | .inx | .iny | .dex | .dey | .rts | .rti
  | .clc | .sec | .cld | .sed | .cli | .sei | .clv | .pha | .php | .pla | .plp | .nop
  | .brk => [.imp]
  | .inc | .dec => [.zp, .zpx, .abs, .abx]
  | .asl | .lsr | .rol | .ror => [.acc, .zp, .zpx, .abs, .abx]
  | .bit => [.zp, .abs]
  | .bcc | .bcs | .beq | .bne | .bmi | .bpl | .bvc | .bvs => [.rel]
  | .jmp => [.abs, .ind]
  | .jsr => [.abs]
  | .cpx | .cpy => [.imm, .zp, .abs]

/-- The pair has an entry in the table of R107. -/
def pairExists (m : Mnemonic) (md : Mode) : Bool := m.modes.contains md

/-- The operand fields an instruction carries are those its mode has (R101): none, a byte, or a word. -/
def operandFits (md : Mode) (d8 : Option Byte) (d16 : Option Word) : Bool :=
  match md.length with
  | 1 => d8.isNone && d16.isNone
  | 2 => d8.isSome && d16.isNone
  | _ => d8.isNone && d16.isSome

/-- An instruction is well formed when its pair exists and its operand fits its mode. -/
def Instr.wellFormed (i : Instr) : Bool :=
  pairExists i.mnemonic i.mode && operandFits i.mode i.operand8 i.operand16

end Sys2Proof
end

