-- ==== Sys2Proof/Decode.lean ====
section
/-! DEFINITION. The decoder, total on any bytes (30_encoding.md R100 to R106), then the encoder, written from the table by
mnemonic (R107). The opcode bytes are the spec's own general knowledge (D2, GK2; log 10). -/

namespace Sys2Proof

/-- What an opcode byte announces (R101): a whole instruction (F1), or one that takes a byte (F2) or a word (F3). -/
inductive Shape where
  | f1 (i : Instr)
  | f2 (make : Byte → Instr)
  | f3 (make : Word → Instr)

/-- Why bytes are no instruction: an undefined opcode (R109), or an operand that is not there. -/
inductive DecodeError where
  | illegalOpcode (byte : Byte)
  | truncated
  deriving DecidableEq, Repr

/-- Row 0x of the opcode map (R106). -/
def opcodeRow0 : List (Byte × Shape) :=
  [(0x00, .f1 .brk), (0x01, .f2 .oraIzx), (0x05, .f2 .oraZp), (0x06, .f2 .aslZp),
   (0x08, .f1 .php), (0x09, .f2 .oraImm), (0x0A, .f1 .aslAcc), (0x0D, .f3 .oraAbs),
   (0x0E, .f3 .aslAbs)]

/-- Row 1x of the opcode map (R106). -/
def opcodeRow1 : List (Byte × Shape) :=
  [(0x10, .f2 .bpl), (0x11, .f2 .oraIzy), (0x15, .f2 .oraZpx), (0x16, .f2 .aslZpx),
   (0x18, .f1 .clc), (0x19, .f3 .oraAby), (0x1D, .f3 .oraAbx), (0x1E, .f3 .aslAbx)]

/-- Row 2x of the opcode map (R106). -/
def opcodeRow2 : List (Byte × Shape) :=
  [(0x20, .f3 .jsr), (0x21, .f2 .andIzx), (0x24, .f2 .bitZp), (0x25, .f2 .andZp),
   (0x26, .f2 .rolZp), (0x28, .f1 .plp), (0x29, .f2 .andImm), (0x2A, .f1 .rolAcc),
   (0x2C, .f3 .bitAbs), (0x2D, .f3 .andAbs), (0x2E, .f3 .rolAbs)]

/-- Row 3x of the opcode map (R106). -/
def opcodeRow3 : List (Byte × Shape) :=
  [(0x30, .f2 .bmi), (0x31, .f2 .andIzy), (0x35, .f2 .andZpx), (0x36, .f2 .rolZpx),
   (0x38, .f1 .sec), (0x39, .f3 .andAby), (0x3D, .f3 .andAbx), (0x3E, .f3 .rolAbx)]

/-- Row 4x of the opcode map (R106). -/
def opcodeRow4 : List (Byte × Shape) :=
  [(0x40, .f1 .rti), (0x41, .f2 .eorIzx), (0x45, .f2 .eorZp), (0x46, .f2 .lsrZp),
   (0x48, .f1 .pha), (0x49, .f2 .eorImm), (0x4A, .f1 .lsrAcc), (0x4C, .f3 .jmpAbs),
   (0x4D, .f3 .eorAbs), (0x4E, .f3 .lsrAbs)]

/-- Row 5x of the opcode map (R106). -/
def opcodeRow5 : List (Byte × Shape) :=
  [(0x50, .f2 .bvc), (0x51, .f2 .eorIzy), (0x55, .f2 .eorZpx), (0x56, .f2 .lsrZpx),
   (0x58, .f1 .cli), (0x59, .f3 .eorAby), (0x5D, .f3 .eorAbx), (0x5E, .f3 .lsrAbx)]

/-- Row 6x of the opcode map (R106). -/
def opcodeRow6 : List (Byte × Shape) :=
  [(0x60, .f1 .rts), (0x61, .f2 .adcIzx), (0x65, .f2 .adcZp), (0x66, .f2 .rorZp),
   (0x68, .f1 .pla), (0x69, .f2 .adcImm), (0x6A, .f1 .rorAcc), (0x6C, .f3 .jmpInd),
   (0x6D, .f3 .adcAbs), (0x6E, .f3 .rorAbs)]

/-- Row 7x of the opcode map (R106). -/
def opcodeRow7 : List (Byte × Shape) :=
  [(0x70, .f2 .bvs), (0x71, .f2 .adcIzy), (0x75, .f2 .adcZpx), (0x76, .f2 .rorZpx),
   (0x78, .f1 .sei), (0x79, .f3 .adcAby), (0x7D, .f3 .adcAbx), (0x7E, .f3 .rorAbx)]

/-- Row 8x of the opcode map (R106). -/
def opcodeRow8 : List (Byte × Shape) :=
  [(0x81, .f2 .staIzx), (0x84, .f2 .styZp), (0x85, .f2 .staZp), (0x86, .f2 .stxZp),
   (0x88, .f1 .dey), (0x8A, .f1 .txa), (0x8C, .f3 .styAbs), (0x8D, .f3 .staAbs),
   (0x8E, .f3 .stxAbs)]

/-- Row 9x of the opcode map (R106). -/
def opcodeRow9 : List (Byte × Shape) :=
  [(0x90, .f2 .bcc), (0x91, .f2 .staIzy), (0x94, .f2 .styZpx), (0x95, .f2 .staZpx),
   (0x96, .f2 .stxZpy), (0x98, .f1 .tya), (0x99, .f3 .staAby), (0x9A, .f1 .txs),
   (0x9D, .f3 .staAbx)]

/-- Row Ax of the opcode map (R106). -/
def opcodeRowA : List (Byte × Shape) :=
  [(0xA0, .f2 .ldyImm), (0xA1, .f2 .ldaIzx), (0xA2, .f2 .ldxImm), (0xA4, .f2 .ldyZp),
   (0xA5, .f2 .ldaZp), (0xA6, .f2 .ldxZp), (0xA8, .f1 .tay), (0xA9, .f2 .ldaImm),
   (0xAA, .f1 .tax), (0xAC, .f3 .ldyAbs), (0xAD, .f3 .ldaAbs), (0xAE, .f3 .ldxAbs)]

/-- Row Bx of the opcode map (R106). -/
def opcodeRowB : List (Byte × Shape) :=
  [(0xB0, .f2 .bcs), (0xB1, .f2 .ldaIzy), (0xB4, .f2 .ldyZpx), (0xB5, .f2 .ldaZpx),
   (0xB6, .f2 .ldxZpy), (0xB8, .f1 .clv), (0xB9, .f3 .ldaAby), (0xBA, .f1 .tsx),
   (0xBC, .f3 .ldyAbx), (0xBD, .f3 .ldaAbx), (0xBE, .f3 .ldxAby)]

/-- Row Cx of the opcode map (R106). -/
def opcodeRowC : List (Byte × Shape) :=
  [(0xC0, .f2 .cpyImm), (0xC1, .f2 .cmpIzx), (0xC4, .f2 .cpyZp), (0xC5, .f2 .cmpZp),
   (0xC6, .f2 .decZp), (0xC8, .f1 .iny), (0xC9, .f2 .cmpImm), (0xCA, .f1 .dex),
   (0xCC, .f3 .cpyAbs), (0xCD, .f3 .cmpAbs), (0xCE, .f3 .decAbs)]

/-- Row Dx of the opcode map (R106). -/
def opcodeRowD : List (Byte × Shape) :=
  [(0xD0, .f2 .bne), (0xD1, .f2 .cmpIzy), (0xD5, .f2 .cmpZpx), (0xD6, .f2 .decZpx),
   (0xD8, .f1 .cld), (0xD9, .f3 .cmpAby), (0xDD, .f3 .cmpAbx), (0xDE, .f3 .decAbx)]

/-- Row Ex of the opcode map (R106). -/
def opcodeRowE : List (Byte × Shape) :=
  [(0xE0, .f2 .cpxImm), (0xE1, .f2 .sbcIzx), (0xE4, .f2 .cpxZp), (0xE5, .f2 .sbcZp),
   (0xE6, .f2 .incZp), (0xE8, .f1 .inx), (0xE9, .f2 .sbcImm), (0xEA, .f1 .nop),
   (0xEC, .f3 .cpxAbs), (0xED, .f3 .sbcAbs), (0xEE, .f3 .incAbs)]

/-- Row Fx of the opcode map (R106). -/
def opcodeRowF : List (Byte × Shape) :=
  [(0xF0, .f2 .beq), (0xF1, .f2 .sbcIzy), (0xF5, .f2 .sbcZpx), (0xF6, .f2 .incZpx),
   (0xF8, .f1 .sed), (0xF9, .f3 .sbcAby), (0xFD, .f3 .sbcAbx), (0xFE, .f3 .incAbx)]

/-- The whole opcode map, in byte order (R106). -/
def opcodeMap : List (Byte × Shape) :=
  opcodeRow0 ++ opcodeRow1 ++ opcodeRow2 ++ opcodeRow3 ++ opcodeRow4 ++ opcodeRow5 ++ opcodeRow6 ++ opcodeRow7 ++
  opcodeRow8 ++ opcodeRow9 ++ opcodeRowA ++ opcodeRowB ++ opcodeRowC ++ opcodeRowD ++ opcodeRowE ++ opcodeRowF

/-- Look an opcode byte up in a part of the map. -/
def findOpcode : List (Byte × Shape) → Byte → Option Shape
  | [], _ => none
  | (b, shape) :: rest, op => if b = op then some shape else findOpcode rest op

/-- `decode(b)` (R104): `none` is `illegal`. -/
def decodeOpcode (op : Byte) : Option Shape := findOpcode opcodeMap op

/-- Decode the first instruction of a list of bytes, and give the bytes after it (R100 to R102). -/
def decode (bytes : List Byte) : Except DecodeError (Instr × List Byte) :=
  match bytes with
  | [] => .error .truncated
  | op :: rest =>
    match decodeOpcode op, rest with
    | none, _ => .error (.illegalOpcode op)
    | some (.f1 i), _ => .ok (i, rest)
    | some (.f2 make), b :: rest => .ok (make b, rest)
    | some (.f3 make), l :: h :: rest => .ok (make (Machine.word h l), rest)
    | some (.f2 _), [] => .error .truncated
    | some (.f3 _), [] => .error .truncated
    | some (.f3 _), [_] => .error .truncated

/-- The bytes of an instruction as the opcode table numbers its bits: bit 0 is the least significant bit of the first byte; every
bit from `nbits` up is 0, up to the longest instruction. -/
def tableBytes (nbits w : Nat) : List Byte :=
  let v := w % 2 ^ nbits
  [BitVec.ofNat 8 v, BitVec.ofNat 8 (v / 2 ^ 8), BitVec.ofNat 8 (v / 2 ^ 16)]

/-- What the decoder reads from a word numbered as spec/opcode_table.json numbers it. -/
def decodeTableWord (nbits w : Nat) : Option Instr :=
  match decode (tableBytes nbits w) with
  | .ok (i, _) => some i
  | .error _ => none

/-- The opcode byte of an instruction (R107). -/
def Instr.opcode : Instr → Byte
  | .ldaImm _ => 0xA9
  | .ldaZp _ => 0xA5
  | .ldaZpx _ => 0xB5
  | .ldaAbs _ => 0xAD
  | .ldaAbx _ => 0xBD
  | .ldaAby _ => 0xB9
  | .ldaIzx _ => 0xA1
  | .ldaIzy _ => 0xB1
  | .ldxImm _ => 0xA2
  | .ldxZp _ => 0xA6
  | .ldxZpy _ => 0xB6
  | .ldxAbs _ => 0xAE
  | .ldxAby _ => 0xBE
  | .ldyImm _ => 0xA0
  | .ldyZp _ => 0xA4
  | .ldyZpx _ => 0xB4
  | .ldyAbs _ => 0xAC
  | .ldyAbx _ => 0xBC
  | .staZp _ => 0x85
  | .staZpx _ => 0x95
  | .staAbs _ => 0x8D
  | .staAbx _ => 0x9D
  | .staAby _ => 0x99
  | .staIzx _ => 0x81
  | .staIzy _ => 0x91
  | .stxZp _ => 0x86
  | .stxZpy _ => 0x96
  | .stxAbs _ => 0x8E
  | .styZp _ => 0x84
  | .styZpx _ => 0x94
  | .styAbs _ => 0x8C
  | .tax => 0xAA
  | .tay => 0xA8
  | .txa => 0x8A
  | .tya => 0x98
  | .txs => 0x9A
  | .tsx => 0xBA
  | .adcImm _ => 0x69
  | .adcZp _ => 0x65
  | .adcZpx _ => 0x75
  | .adcAbs _ => 0x6D
  | .adcAbx _ => 0x7D
  | .adcAby _ => 0x79
  | .adcIzx _ => 0x61
  | .adcIzy _ => 0x71
  | .sbcImm _ => 0xE9
  | .sbcZp _ => 0xE5
  | .sbcZpx _ => 0xF5
  | .sbcAbs _ => 0xED
  | .sbcAbx _ => 0xFD
  | .sbcAby _ => 0xF9
  | .sbcIzx _ => 0xE1
  | .sbcIzy _ => 0xF1
  | .incZp _ => 0xE6
  | .incZpx _ => 0xF6
  | .incAbs _ => 0xEE
  | .incAbx _ => 0xFE
  | .decZp _ => 0xC6
  | .decZpx _ => 0xD6
  | .decAbs _ => 0xCE
  | .decAbx _ => 0xDE
  | .inx => 0xE8
  | .iny => 0xC8
  | .dex => 0xCA
  | .dey => 0x88
  | .andImm _ => 0x29
  | .andZp _ => 0x25
  | .andZpx _ => 0x35
  | .andAbs _ => 0x2D
  | .andAbx _ => 0x3D
  | .andAby _ => 0x39
  | .andIzx _ => 0x21
  | .andIzy _ => 0x31
  | .oraImm _ => 0x09
  | .oraZp _ => 0x05
  | .oraZpx _ => 0x15
  | .oraAbs _ => 0x0D
  | .oraAbx _ => 0x1D
  | .oraAby _ => 0x19
  | .oraIzx _ => 0x01
  | .oraIzy _ => 0x11
  | .eorImm _ => 0x49
  | .eorZp _ => 0x45
  | .eorZpx _ => 0x55
  | .eorAbs _ => 0x4D
  | .eorAbx _ => 0x5D
  | .eorAby _ => 0x59
  | .eorIzx _ => 0x41
  | .eorIzy _ => 0x51
  | .aslAcc => 0x0A
  | .aslZp _ => 0x06
  | .aslZpx _ => 0x16
  | .aslAbs _ => 0x0E
  | .aslAbx _ => 0x1E
  | .lsrAcc => 0x4A
  | .lsrZp _ => 0x46
  | .lsrZpx _ => 0x56
  | .lsrAbs _ => 0x4E
  | .lsrAbx _ => 0x5E
  | .rolAcc => 0x2A
  | .rolZp _ => 0x26
  | .rolZpx _ => 0x36
  | .rolAbs _ => 0x2E
  | .rolAbx _ => 0x3E
  | .rorAcc => 0x6A
  | .rorZp _ => 0x66
  | .rorZpx _ => 0x76
  | .rorAbs _ => 0x6E
  | .rorAbx _ => 0x7E
  | .bitZp _ => 0x24
  | .bitAbs _ => 0x2C
  | .bcc _ => 0x90
  | .bcs _ => 0xB0
  | .beq _ => 0xF0
  | .bne _ => 0xD0
  | .bmi _ => 0x30
  | .bpl _ => 0x10
  | .bvc _ => 0x50
  | .bvs _ => 0x70
  | .jmpAbs _ => 0x4C
  | .jmpInd _ => 0x6C
  | .jsr _ => 0x20
  | .rts => 0x60
  | .rti => 0x40
  | .clc => 0x18
  | .sec => 0x38
  | .cld => 0xD8
  | .sed => 0xF8
  | .cli => 0x58
  | .sei => 0x78
  | .clv => 0xB8
  | .cmpImm _ => 0xC9
  | .cmpZp _ => 0xC5
  | .cmpZpx _ => 0xD5
  | .cmpAbs _ => 0xCD
  | .cmpAbx _ => 0xDD
  | .cmpAby _ => 0xD9
  | .cmpIzx _ => 0xC1
  | .cmpIzy _ => 0xD1
  | .cpxImm _ => 0xE0
  | .cpxZp _ => 0xE4
  | .cpxAbs _ => 0xEC
  | .cpyImm _ => 0xC0
  | .cpyZp _ => 0xC4
  | .cpyAbs _ => 0xCC
  | .pha => 0x48
  | .php => 0x08
  | .pla => 0x68
  | .plp => 0x28
  | .nop => 0xEA
  | .brk => 0x00

/-- The operand bytes of an instruction, the low byte of a word first (R101, R102). -/
def Instr.operandBytes (i : Instr) : List Byte :=
  match i.operand8, i.operand16 with
  | some b, _ => [b]
  | none, some w => [Machine.low w, Machine.high w]
  | none, none => []

/-- The bytes of an instruction in ascending address order (R100). -/
def encode (i : Instr) : List Byte := i.opcode :: i.operandBytes

end Sys2Proof
end

