-- ==== Sys2Proof/Machine/Fetch.lean ====
section
/-! DEFINITION. Fetching an instruction over the bus (40_addressing_and_step.md R130 to R132), and placing an instruction's bytes
where the next fetch reads them (log 6). -/

namespace Sys2Proof.Machine

/-- `fetch8()` (R131): an ordinary bus read at PC, and PC advances at once (R24). -/
def fetch8 (s : State) : Except Fault (Byte × State) := do
  let (b, t) ← busRead s.pc s
  return (b, t.setPc (s.pc + 1))

/-- `fetch16()` (R132): the low byte is at the lower address. -/
def fetch16 (s : State) : Except Fault (Word × State) := do
  let (l, s) ← fetch8 s
  let (h, s) ← fetch8 s
  return (word h l, s)

/-- Fetch and decode one instruction (R130): the opcode byte, then the operand bytes its format has. An undefined opcode stops the
machine with the address it was fetched from (R109, R301). -/
def fetchInstr (s : State) : Except Fault (Instr × State) := do
  let (op, t) ← fetch8 s
  match decodeOpcode op with
  | none => .error (.illegalOpcode s.pc op)
  | some (.f1 i) => return (i, t)
  | some (.f2 make) => do
    let (b, t) ← fetch8 t
    return (make b, t)
  | some (.f3 make) => do
    let (w, t) ← fetch16 t
    return (make w, t)

/-- The state after one byte was fetched, where it is claimed. -/
def State.afterFetch (s : State) : State := (s.touch s.pc).setPc (s.pc + 1)

/-- The state after `n` bytes were fetched, and the bytes those fetches return, where they are claimed. -/
def State.afterFetches (s : State) : Nat → State
  | 0 => s
  | n + 1 => (s.afterFetch).afterFetches n

def State.fetchedBytes (s : State) : Nat → List Byte
  | 0 => []
  | n + 1 => s.byteAt s.pc :: (s.afterFetch).fetchedBytes n

/-- Replace the byte of a PRG bank at an offset. -/
def RomImage.placeByte (image : RomImage) (i offset : Nat) (b : Byte) : RomImage :=
  { image with prg := image.prg.modify i fun bank => Memory.write bank offset b }

/-- Place a byte in the storage behind an address, RAM or ROM, from outside the machine; a device window has no storage. -/
def State.place (s : State) (a : Word) (b : Byte) : State :=
  match s.owner a with
  | some d =>
    match d.kind with
    | .ram => s.setRam (s.ram.write (d.index a) b)
    | .cartridge =>
      if a.toNat < 0x8000 then s
      else if a.toNat < 0xC000 then s.setCart { s.cart with image := s.cart.image.placeByte 0 (a.toNat - 0x8000) b }
      else s.setCart { s.cart with image := s.cart.image.placeByte (s.cart.image.prg.length - 1) (a.toNat - 0xC000) b }
    | .ppu | .io => s
  | none => s

/-- Place bytes at an address and the addresses after it. -/
def State.placeBytes (s : State) (a : Word) : List Byte → State
  | [] => s
  | b :: rest => (s.place a b).placeBytes (a + 1) rest

/-- The state with an instruction placed where the next step fetches, and no event pending that would come before it (R130). -/
def State.readied (s : State) (bytes : List Byte) : State :=
  (((s.placeBytes s.pc bytes).setResetPending false).setNmiPending false).setIrqLine (s.irqLine && s.p.i)

end Sys2Proof.Machine
end

