-- ==== Sys2Proof/Machine/Step.lean ====
section
/-! DEFINITION. One step of the machine (40_addressing_and_step.md R130, 00_scope.md R14). -/

namespace Sys2Proof.Machine

/-- A step serves a pending event, or fetches one instruction and executes it; it leaves the next state or a fault. -/
def step (s : State) : Host.Outcome State Fault Refusal :=
  match serveEvent s with
  | some r => outcome r
  | none =>
    match fetchInstr s with
    | .error f => .fault f
    | .ok (i, t) => exec i t

/-- The state with an instruction, numbered as spec/opcode_table.json numbers its bits, stored where `step` fetches next (log 6). -/
def State.withFetchWord (s : State) (nbits w : Nat) : State := s.readied (tableBytes nbits w)

end Sys2Proof.Machine
end

