-- ==== Sys2Proof/Machine/Environment.lean ====
section
/-! DEFINITION. What the environment may do between two steps (60_exceptions.md R305, 70_reset_and_hazards.md R347); `step` never
does any of it. -/

namespace Sys2Proof.Machine

/-- A move of the driving loop between two steps (R347). -/
inductive EnvAction where
  | requestReset
  | requestNmi
  | driveIrq (level : Bool)
  | ppuAdvances (outside : Nat)
  | ioAdvances (outside : Nat)
  | cartridgeAdvances (outside : Nat)
  deriving DecidableEq, Repr

/-- What a move does to the state: a request sets its latch (a second NMI request while it is set is lost, U17), the IRQ level is
driven, a device's own state changes (log 1). -/
def environment (e : EnvAction) (s : State) : State :=
  match e with
  | .requestReset => s.setResetPending true
  | .requestNmi => s.setNmiPending true
  | .driveIrq level => s.setIrqLine level
  | .ppuAdvances n => s.setPpu { s.ppu with outside := n }
  | .ioAdvances n => s.setIo { s.io with outside := n }
  | .cartridgeAdvances n => s.setCart { s.cart with low := { s.cart.low with outside := n } }

end Sys2Proof.Machine
end

