-- ==== Sys2Proof/Safety.lean ====
section
/-! DEFINITION. What the claims speak of: when a bus access cannot fail, when no event is pending, the machine's invariant, and the
tables of 10_state.md R21, R22, R24, R26 and 40_addressing_and_step.md R151 that say what an instruction may write. -/

namespace Sys2Proof.Machine

/-- Every address has an owner (70_reset_and_hazards.md R343); the console's map has this (20_memory.md R72). -/
def State.covered (s : State) : Prop := ∀ a : Word, s.claimed a = true

/-- The bus carries the console's address map (R72). -/
abbrev State.onConsole (s : State) : Prop := s.devices = consoleDevices

/-- No event would be served before the next instruction (R130). -/
abbrev State.quiet (s : State) : Prop := s.resetPending = false ∧ s.nmiPending = false ∧ (s.irqLine = false ∨ s.p.i = true)

/-- A device's bounds are those of a segment (R68); RAM holds 2 KB (R73). -/
abbrev Slot.ok (d : Slot) : Prop :=
  d.base < d.stop ∧ d.stop ≤ 0x10000 ∧ 1 ≤ d.capacity ∧ (d.kind = .ram → d.capacity ≤ 0x800)

/-- An image the cartridge accepts (R79), its banks in canonical form and within their size. -/
abbrev RomImage.ok (r : RomImage) : Prop :=
  r.mapper = 0 ∧ 1 ≤ r.prg.length ∧ r.prg.length ≤ 2 ∧ r.chr.length ≤ 1 ∧
    (∀ bank ∈ r.prg, Memory.wf bank ∧ Memory.below bank 0x4000) ∧ (∀ bank ∈ r.chr, Memory.wf bank ∧ Memory.below bank 0x2000)

/-- THE INVARIANT: RAM in canonical form and within 2 KB, every device's bounds legal, the ROM image an accepted one. -/
abbrev State.wf (s : State) : Prop :=
  Memory.wf s.ram ∧ Memory.below s.ram 0x800 ∧ (∀ d ∈ s.devices, d.ok) ∧ s.cart.image.ok

/-- A device window after some accesses: the same device, left alone by the environment, its history with more in front. -/
abbrev Port.extendedBy (p q : Port) : Prop := q.mode = p.mode ∧ q.outside = p.outside ∧ p.history <:+ q.history

/-- The four 8-bit registers (R20). -/
inductive Reg where
  | a | x | y | s
  deriving DecidableEq, Repr

def State.reg (t : State) : Reg → Byte
  | .a => t.a
  | .x => t.x
  | .y => t.y
  | .s => t.sp

/-- The six flags (R25). -/
inductive Flag where
  | c | z | i | d | v | n
  deriving DecidableEq, Repr

def Flags.get (p : Flags) : Flag → Bool
  | .c => p.c
  | .z => p.z
  | .i => p.i
  | .d => p.d
  | .v => p.v
  | .n => p.n

end Sys2Proof.Machine

namespace Sys2Proof

open Machine

/-- The registers an instruction writes: the column "written by" of R21, R22 for S (the push and pull primitives and TXS). -/
def Instr.registersWritten (i : Instr) : List Reg :=
  match i.mnemonic with
  | .lda | .txa | .tya | .adc | .sbc | .and | .ora | .eor => [.a]
  | .asl | .lsr | .rol | .ror => if i.mode = .acc then [.a] else []
  | .ldx | .tax | .tsx | .inx | .dex => [.x]
  | .ldy | .tay | .iny | .dey => [.y]
  | .txs | .pha | .php | .plp | .jsr | .rts | .rti | .brk => [.s]
  | .pla => [.a, .s]
  | .sta | .stx | .sty | .inc | .dec | .bit | .bcc | .bcs | .beq | .bne | .bmi | .bpl | .bvc | .bvs | .jmp
  | .clc | .sec | .cld | .sed | .cli | .sei | .clv | .cmp | .cpx | .cpy | .nop => []

/-- The instruction's own rule may write PC, beyond the advance its fetch made (R24). -/
def Instr.writesPc (i : Instr) : Bool :=
  match i.mnemonic with
  | .bcc | .bcs | .beq | .bne | .bmi | .bpl | .bvc | .bvs | .jmp | .jsr | .rts | .rti | .brk => true
  | _ => false

/-- The flags an instruction writes (R26). -/
def Instr.flagsWritten (i : Instr) : List Flag :=
  match i.mnemonic with
  | .lda | .ldx | .ldy | .tax | .tay | .txa | .tya | .tsx | .pla | .inc | .dec | .inx | .iny | .dex | .dey
  | .and | .ora | .eor => [.n, .z]
  | .sta | .stx | .sty | .txs | .pha | .php | .nop | .jmp | .jsr | .rts
  | .bcc | .bcs | .beq | .bne | .bmi | .bpl | .bvc | .bvs => []
  | .adc | .sbc => [.n, .v, .z, .c]
  | .asl | .lsr | .rol | .ror | .cmp | .cpx | .cpy => [.n, .z, .c]
  | .bit => [.n, .v, .z]
  | .clc | .sec => [.c]
  | .cld | .sed => [.d]
  | .cli | .sei | .brk => [.i]
  | .clv => [.v]
  | .plp | .rti => [.n, .v, .d, .i, .z, .c]

/-- The memory form of an instruction in a memory mode (R103, R143: ABS gives a Pointer to JMP and JSR, a Reference otherwise). -/
def Instr.memForm (i : Instr) : Option MemForm :=
  let b := i.operand8.getD 0
  let w := i.operand16.getD 0
  match i.mode with
  | .zp => some (.zp b)
  | .zpx => some (.zpx b)
  | .zpy => some (.zpy b)
  | .abs => if i.writesPc then none else some (.abs w)
  | .abx => some (.abx w)
  | .aby => some (.aby w)
  | .izx => some (.izx b)
  | .izy => some (.izy b)
  | .imp | .acc | .imm | .ind | .rel => none

/-- The bus addresses an instruction writes, in order (R151). -/
def Instr.storedAt (i : Instr) (s : State) : List Word :=
  match i.mnemonic with
  | .sta | .stx | .sty | .inc | .dec | .asl | .lsr | .rol | .ror =>
    match i.memForm with
    | some f => [s.effective f]
    | none => []
  | .pha | .php => [stackAddr s.sp]
  | .jsr => [stackAddr s.sp, stackAddr (s.sp - 1)]
  | .brk => [stackAddr s.sp, stackAddr (s.sp - 1), stackAddr (s.sp - 2)]
  | _ => []

end Sys2Proof

namespace Sys2Proof.Machine

/-- The RAM cell behind an address, if its owner is RAM (R70, R73). -/
def State.cellOf (s : State) (a : Word) : Option Nat :=
  match s.owner a with
  | some d => if d.kind = .ram then some (d.index a) else none
  | none => none

/-- The byte of the storage behind an address, RAM or ROM, without a bus access; `none` for a device window or no owner. -/
def State.stored (s : State) (a : Word) : Option Byte :=
  match s.owner a with
  | some d =>
    match d.kind with
    | .ram => some (s.ram.read (d.index a))
    | .cartridge => if a.toNat < 0x8000 then none else some (s.cart.image.windowByte a)
    | .ppu | .io => none
  | none => none

end Sys2Proof.Machine
end

