-- ==== Sys2Proof/Certificates/Slice0/Obligations.lean ====
section
/-! DEFINITION. The statements handed to the provers, each from a rule of spec/ or from the model's own promise, listed in
OBLIGATIONS.json. `Claims.…` are the words they are written in. -/

namespace Sys2Proof.Claims

open Machine

/-- The list by column of the 105 undefined opcode bytes (30_encoding.md R109). -/
def listedIllegal (op : Byte) : Bool :=
  let lo := op.toNat % 16
  decide (lo = 3 ∨ lo = 7 ∨ lo = 11 ∨ lo = 15) || (decide (lo = 2) && decide (op ≠ 0xA2)) ||
    [0x04, 0x14, 0x34, 0x44, 0x54, 0x64, 0x74, 0xD4, 0xF4].contains op || [0x1A, 0x3A, 0x5A, 0x7A, 0xDA, 0xFA].contains op ||
    [0x0C, 0x1C, 0x3C, 0x5C, 0x7C, 0x9C, 0xDC, 0xFC].contains op || [0x80, 0x89, 0x9E].contains op

/-- `set`, `clear` and `toggle` of bit `i` act on bit `j` as they should: on no other bit than `i` (R7). -/
def changesOneBit {w : Nat} (v : BitVec w) (i j : Nat) : Prop :=
  bitOf v i = v.getLsbD i ∧
  (setBit v i).getLsbD j = (if j = i then true else v.getLsbD j) ∧
  (clearBit v i).getLsbD j = (if j = i then false else v.getLsbD j) ∧
  (toggleBit v i).getLsbD j = (if j = i then !v.getLsbD j else v.getLsbD j)

/-- An exact signed result that does not fit in 8 bits. -/
def leavesSignedRange (r : Int) : Bool := decide (r < -128 ∨ 127 < r)

/-- The status byte as pushed: bit 5 set, bit 4 set for an instruction push (R30 to R32). -/
def statusByte (p : Flags) (instruction : Bool) : Byte :=
  BitVec.ofNat 8 (p.c.toNat + 2 * p.z.toNat + 4 * p.i.toNat + 8 * p.d.toNat + 16 * instruction.toNat + 32 + 64 * p.v.toNat +
    128 * p.n.toNat)

/-- The six flags of a pulled byte; bits 4 and 5 are dropped (R33). -/
def flagsOf (b : Byte) : Flags := ⟨b.getLsbD 0, b.getLsbD 1, b.getLsbD 2, b.getLsbD 3, b.getLsbD 6, b.getLsbD 7⟩

/-- The stack address `0x0100 + ((S + k) mod 256)` (R151). -/
def slot (s : State) (k : Byte) : Word := 0x0100 + (s.sp + k).setWidth 16

/-- The word two reads from an address on return: low byte first (R62). -/
def pointed (s : State) (a : Word) : Word := (s.touch a).byteAt (a + 1) ++ s.byteAt a

/-- What an entry leaves (R309, R286): the return address and a status byte pushed, I set, PC from the vector, nothing else. -/
def entered (s : State) (back : Word) (status : Byte) (vector : Word) : State :=
  let t := ((s.store (slot s 0) (back.extractLsb' 8 8)).store (slot s 255) (back.extractLsb' 0 8)).store (slot s 254) status
  { (t.touch vector).touch (vector + 1) with sp := s.sp - 3, p := { s.p with i := true }, pc := pointed t vector }

/-- A byte put in A, with Z and N from it. -/
def resultInA (s : State) (r : Byte) : State := { s with a := r, p := { s.p with z := decide (r = 0), n := r.getLsbD 7 } }

/-- What ADC leaves (R190): the exact sum narrowed, carry above 0xFF, V for leaving the signed range. -/
def sumInA (s : State) (m : Byte) : State :=
  let sum := s.a.toNat + m.toNat + s.p.c.toNat
  { s with
    a := BitVec.ofNat 8 sum
    p := { s.p with
      z := decide (sum % 256 = 0), n := decide (128 ≤ sum % 256), c := decide (255 < sum)
      v := leavesSignedRange (s.a.toInt + m.toInt + s.p.c.toNat) } }

/-- What SBC leaves (R191): the exact difference narrowed, carry for no borrow, V for leaving the signed range. -/
def differenceInA (s : State) (m : Byte) : State :=
  let borrow : Int := 1 - s.p.c.toNat
  let r : Byte := BitVec.ofInt 8 (s.a.toNat - m.toNat - borrow)
  { s with
    a := r
    p := { s.p with
      z := decide (r = 0), n := r.getLsbD 7, c := decide ((m.toNat : Int) + borrow ≤ s.a.toNat)
      v := leavesSignedRange (s.a.toInt - m.toInt - borrow) } }

/-- The flags a shift or rotate leaves: Z and N of the result, C the bit shifted out. -/
def shifted (s : State) (r : Byte) (out : Bool) : State :=
  { s with p := { s.p with z := decide (r = 0), n := r.getLsbD 7, c := out } }

/-- What a compare leaves (R262): Z for equal, C for at least, N bit 7 of the difference, nothing else. -/
def compared (s : State) (r m : Byte) : State :=
  { s with p := { s.p with z := decide (r = m), n := (r - m).getLsbD 7, c := decide (m.toNat ≤ r.toNat) } }

/-- One access on the bus (R151). -/
inductive Access where
  | read (a : Word)
  | write (a : Word) (v : Byte)
  deriving DecidableEq, Repr

/-- The state after accesses made one after another. -/
def made : List Access → State → State
  | [], s => s
  | .read a :: rest, s => made rest (s.touch a)
  | .write a v :: rest, s => made rest (s.store a v)

/-- The byte a store or a read-modify-write instruction writes at its effective address (R173 to R175, R192, R193, R213 to R216). -/
def written (i : Instr) (s : State) : Byte :=
  let m := match i.memForm with
    | some f => s.operand f
    | none => s.a
  match i.mnemonic with
  | .sta => s.a
  | .stx => s.x
  | .sty => s.y
  | .inc => m + 1
  | .dec => m - 1
  | .asl => BitVec.ofNat 8 (m.toNat * 2)
  | .lsr => BitVec.ofNat 8 (m.toNat / 2)
  | .rol => BitVec.ofNat 8 (m.toNat * 2 + s.p.c.toNat)
  | .ror => BitVec.ofNat 8 (m.toNat / 2 + 128 * s.p.c.toNat)
  | _ => m

/-- What an instruction in a memory mode does at its effective address, in order: item 3 of R151. -/
def atOperand (i : Instr) (s : State) (a : Word) : List Access :=
  match i.mnemonic with
  | .sta | .stx | .sty => [.write a (written i s)]
  | .inc | .dec | .asl | .lsr | .rol | .ror => [.read a, .write a (written i s)]
  | _ => [.read a]

/-- The pointer reads of a mode: item 2 of R151. -/
def pointerReads (i : Instr) (s : State) : List Access :=
  let b := i.operand8.getD 0
  let w := i.operand16.getD 0
  match i.mode with
  | .ind => [.read w, .read (w + 1)]
  | .izx => [.read ((b + s.x).setWidth 16), .read ((b + s.x).setWidth 16 + 1)]
  | .izy => [.read (b.setWidth 16), .read (b.setWidth 16 + 1)]
  | _ => []

/-- The accesses of an instruction after its fetch: items 2 and 3 of R151. -/
def accesses (i : Instr) (s : State) : List Access :=
  pointerReads i s ++
    match i.mnemonic with
    | .jsr => [.write (slot s 0) ((s.pc - 1).extractLsb' 8 8), .write (slot s 255) ((s.pc - 1).extractLsb' 0 8)]
    | .rts => [.read (slot s 1), .read (slot s 2)]
    | .rti => [.read (slot s 1), .read (slot s 2), .read (slot s 3)]
    | .pha => [.write (slot s 0) s.a]
    | .php => [.write (slot s 0) (statusByte s.p true)]
    | .pla | .plp => [.read (slot s 1)]
    | .brk => [.write (slot s 0) ((s.pc + 1).extractLsb' 8 8), .write (slot s 255) ((s.pc + 1).extractLsb' 0 8),
        .write (slot s 254) (statusByte s.p true), .read 0xFFFE, .read 0xFFFF]
    | _ =>
      match i.memForm with
      | some f => atOperand i s (s.effective f)
      | none => []

/-- What a free device window has seen, newest first, of an instruction whose effective address is one of its registers. -/
def seen (i : Instr) (s : State) (register : Nat) : List PortEvent :=
  match i.mnemonic with
  | .sta | .stx | .sty => [.write register (written i s)]
  | .inc | .dec | .asl | .lsr | .rol | .ror => [.write register (written i s), .read register]
  | _ => [.read register]

end Sys2Proof.Claims

open Sys2Proof Sys2Proof.Machine

/-- For every instruction (all 151 constructors, every operand value) and every list of further bytes, decode of its encoding
followed by those bytes answers the instruction and those bytes. The opcode bytes are the spec's own general knowledge (D2, log
10). (R100, R102, 30_encoding.md section 2) -/
def Obligations.DecodeOfEncodeIsTheInstruction : Prop :=
  ∀ (i : Instr) (rest : List Byte), decode (encode i ++ rest) = .ok (i, rest)

/-- For every list of bytes, if decode answers an instruction and a rest, the bytes are the encoding of that instruction followed by
the rest, and its mnemonic and mode are a pair of the table. The opcode bytes are the spec's own general knowledge (D2, log 10).
(R100, R102, 30_encoding.md section 2) -/
def Obligations.DecodedBytesAreTheEncoding : Prop :=
  ∀ (bytes : List Byte) (i : Instr) (rest : List Byte), decode bytes = .ok (i, rest) → bytes = encode i ++ rest ∧ i.wellFormed = true

/-- The thirteen byte sequences of the table of assembler notation (one per addressing mode) decode to the instructions shown beside
them. General knowledge of the spec (D2, log 10). (30_encoding.md section 4) -/
def Obligations.AssemblerExamplesDecode : Prop :=
  decode [0x18] = .ok (.clc, []) ∧ decode [0x0A] = .ok (.aslAcc, []) ∧ decode [0xA9, 0x10] = .ok (.ldaImm 0x10, []) ∧
    decode [0xA5, 0x10] = .ok (.ldaZp 0x10, []) ∧ decode [0xB5, 0x10] = .ok (.ldaZpx 0x10, []) ∧
    decode [0xB6, 0x10] = .ok (.ldxZpy 0x10, []) ∧ decode [0xAD, 0x34, 0x12] = .ok (.ldaAbs 0x1234, []) ∧
    decode [0xBD, 0x34, 0x12] = .ok (.ldaAbx 0x1234, []) ∧ decode [0xB9, 0x34, 0x12] = .ok (.ldaAby 0x1234, []) ∧
    decode [0x6C, 0x34, 0x12] = .ok (.jmpInd 0x1234, []) ∧ decode [0xA1, 0x10] = .ok (.ldaIzx 0x10, []) ∧
    decode [0xB1, 0x10] = .ok (.ldaIzy 0x10, []) ∧ decode [0xD0, 0x03] = .ok (.bne 0x03, [])

/-- A byte has no entry in the opcode map exactly when the spec's list by column names it, and there are 105 such bytes. The list is
the spec's own (D2, D5, log 10). (30_encoding.md section 3) -/
def Obligations.UndefinedOpcodesAreTheListedOnes : Prop :=
  (∀ op : Byte, (decodeOpcode op).isNone = true ↔ Claims.listedIllegal op = true) ∧
    ((List.range 256).filter fun n => Claims.listedIllegal (BitVec.ofNat 8 n)).length = 105

/-- If no event is pending, the address in PC is claimed and the byte there has no entry in the opcode map, the step faults with
illegalOpcode carrying PC and the byte. The spec's own decision (D5). (60_exceptions.md section 1, 30_encoding.md section 3) -/
def Obligations.IllegalOpcodeStopsTheMachine : Prop :=
  ∀ s : State, s.quiet → s.claimed s.pc = true → (decodeOpcode (s.byteAt s.pc)).isNone = true →
    step s = .fault (.illegalOpcode s.pc (s.byteAt s.pc))

/-- If every address has an owner, no event is pending and the bytes read at PC decode to i, then step at s is exec of i at the
state in which the bytes of i have been fetched, and that state has PC past the instruction. That events come first is the
spec's decision (D8). (R131, R24, 40_addressing_and_step.md section 1) -/
def Obligations.StepExecutesTheDecodedInstruction : Prop :=
  ∀ (s : State) (i : Instr) (rest : List Byte), s.covered → s.quiet → decode (s.fetchedBytes 3) = .ok (i, rest) →
    step s = exec i (s.afterFetches (encode i).length) ∧
    (s.afterFetches (encode i).length).pc = s.pc + BitVec.ofNat 16 (encode i).length

/-- fetch8 at a state whose PC is claimed answers the byte a bus read of PC returns and the state after that read with PC + 1; where
PC is not claimed it raises UnmappedAccess of PC. (R131) -/
def Obligations.FetchReadsAtPcAndAdvances : Prop :=
  ∀ s : State,
    (s.claimed s.pc = true → fetch8 s = .ok (s.byteAt s.pc, { s.touch s.pc with pc := s.pc + 1 })) ∧
    (s.claimed s.pc = false → fetch8 s = .error (.unmappedAccess s.pc))

/-- Addition and subtraction of Bytes wrap modulo 256 and of Words modulo 65536, AND, OR and XOR act bit by bit, NOT is 255 - a and
XOR with 0xFF; word(h, l) is h * 256 + l; word(high w, low w) = w, with the source's example. (R5, R6) -/
def Obligations.ByteAndWordArithmeticWraps : Prop :=
  (∀ a b : Byte, (a + b).toNat = (a.toNat + b.toNat) % 256 ∧ (a - b).toNat = (a.toNat + 256 - b.toNat) % 256 ∧
      (~~~a).toNat = 255 - a.toNat ∧ ~~~a = a ^^^ 0xFF ∧
      ∀ i, i < 8 → (a &&& b).getLsbD i = (a.getLsbD i && b.getLsbD i) ∧ (a ||| b).getLsbD i = (a.getLsbD i || b.getLsbD i) ∧
        (a ^^^ b).getLsbD i = (a.getLsbD i ^^ b.getLsbD i)) ∧
    (∀ v w : Word, (v + w).toNat = (v.toNat + w.toNat) % 65536 ∧ (v - w).toNat = (v.toNat + 65536 - w.toNat) % 65536) ∧
    (∀ h l : Byte, (word h l).toNat = h.toNat * 256 + l.toNat ∧ high (word h l) = h ∧ low (word h l) = l) ∧
    (∀ w : Word, word (high w) (low w) = w) ∧ word 0xAB 0xCD = 0xABCD ∧ high 0xABCD = 0xAB ∧ low 0xABCD = 0xCD

/-- For every index within the width, set makes the bit 1, clear makes it 0, toggle inverts it, and each leaves every other bit as
it was; for Bytes with indices 0 to 7 and Words with indices 0 to 15. (R7) -/
def Obligations.SingleBitOperationsChangeOneBit : Prop :=
  (∀ (v : Byte) (i j : Nat), i < 8 → j < 8 → Claims.changesOneBit v i j) ∧
    (∀ (v : Word) (i j : Nat), i < 16 → j < 16 → Claims.changesOneBit v i j)

/-- shift_left gives (2v mod 256) + cin and bit 7; shift_right gives v div 2 + 128 cin and bit 0; the rotates are those with the
carry, so that the pair of carry and byte is rotated as nine bits. (R8, R9) -/
def Obligations.ShiftsAndRotatesCarryTheBitOut : Prop :=
  ∀ (v : Byte) (c : Bool),
    (shiftLeft v c).1.toNat = v.toNat * 2 % 256 + c.toNat ∧ (shiftLeft v c).2 = v.getLsbD 7 ∧
    (shiftRight v c).1.toNat = v.toNat / 2 + 128 * c.toNat ∧ (shiftRight v c).2 = v.getLsbD 0 ∧
    rotateLeft v c = shiftLeft v c ∧ rotateRight v c = shiftRight v c ∧
    256 * (rotateLeft v c).2.toNat + (rotateLeft v c).1.toNat = 2 * v.toNat + c.toNat ∧
    2 * (rotateRight v c).1.toNat + (rotateRight v c).2.toNat = v.toNat + 256 * c.toNat

/-- sign is bit 7; overflows2 follows its bit formula and says that the signed sum leaves the range, with the source's four cases;
overflows3 follows both bit formulas for every result, agrees with overflows2 when the carry-in is 0, differs from it at 7F + 00
+ 1, and on l + r + cin says that the signed sum with the carry-in leaves the range and equals the carry into bit 7 XOR the
carry out of bit 7. (R10, R11, R12) -/
def Obligations.OverflowIsLeavingTheSignedRange : Prop :=
  (∀ v : Byte, sign v = v.getLsbD 7) ∧
    (∀ l r : Byte, overflows2 l r = decide (l.getLsbD 7 = r.getLsbD 7 ∧ (l + r).getLsbD 7 ≠ l.getLsbD 7) ∧
      overflows2 l r = Claims.leavesSignedRange (l.toInt + r.toInt)) ∧
    overflows2 0x50 0x50 = true ∧ overflows2 0xD0 0x90 = true ∧ overflows2 0x50 0x10 = false ∧ overflows2 0xD0 0xD0 = false ∧
    (∀ (l r : Byte) (res : Nat),
      overflows3 l r res = decide (l.getLsbD 7 = r.getLsbD 7 ∧ (BitVec.ofNat 8 res).getLsbD 7 ≠ l.getLsbD 7) ∧
      overflows3 l r res = decide ((((l ^^^ BitVec.ofNat 8 res) &&& (r ^^^ BitVec.ofNat 8 res)) &&& 0x80) ≠ 0)) ∧
    (∀ l r : Byte, overflows3 l r (l.toNat + r.toNat) = overflows2 l r) ∧
    overflows2 0x7F 0x00 = false ∧ overflows3 0x7F 0x00 0x80 = true ∧
    (∀ (l r : Byte) (c : Bool),
      overflows3 l r (l.toNat + r.toNat + c.toNat) = Claims.leavesSignedRange (l.toInt + r.toInt + c.toNat) ∧
      overflows3 l r (l.toNat + r.toNat + c.toNat) =
        (decide (128 ≤ l.toNat % 128 + r.toNat % 128 + c.toNat) ^^ decide (256 ≤ l.toNat + r.toNat + c.toNat)))

/-- pack is C + 2Z + 4I + 8D + 64V + 128N with bits 4 and 5 clear; assign takes the six flags from bits 0, 1, 2, 3, 6, 7; after
assign(b) the instruction form is (b AND CF) OR 30 and the interrupt form (b AND CF) OR 20. The round trip is the spec's own
derivation (R37, from R30 to R33). (R30, R31, R32, R33, R37) -/
def Obligations.StatusBytePackingRoundTrips : Prop :=
  (∀ p : Flags, (pack p).toNat =
      p.c.toNat + 2 * p.z.toNat + 4 * p.i.toNat + 8 * p.d.toNat + 64 * p.v.toNat + 128 * p.n.toNat ∧
      (pack p).getLsbD 4 = false ∧ (pack p).getLsbD 5 = false) ∧
    (∀ b : Byte, assign b = ⟨b.getLsbD 0, b.getLsbD 1, b.getLsbD 2, b.getLsbD 3, b.getLsbD 6, b.getLsbD 7⟩ ∧
      instructionValue (assign b) = (b &&& 0xCF) ||| 0x30 ∧ interruptValue (assign b) = (b &&& 0xCF) ||| 0x20 ∧
      (instructionValue (assign b)).getLsbD 4 = true ∧ (instructionValue (assign b)).getLsbD 5 = true ∧
      (interruptValue (assign b)).getLsbD 4 = false ∧ (interruptValue (assign b)).getLsbD 5 = true)

/-- logical of a byte sets zero when it is 0 and negative to its bit 7 and leaves C, I, D, V; arithmetic of a natural number does so
from its low byte and sets carry when it exceeds FF. The flags of ADC and SBC but V, and those of ASL, are arithmetic of the
exact result; those of LSR are not, where arithmetic would always clear the carry and C is the bit shifted out (C1). (R34, R35) -/
def Obligations.ResultFlagsFollowTheLowByte : Prop :=
  (∀ (p : Flags) (r : Byte), logical p r = { p with z := decide (r = 0), n := r.getLsbD 7 }) ∧
    (∀ (p : Flags) (r : Nat), arithmetic p r =
      { p with z := decide (r % 256 = 0), n := decide (128 ≤ r % 256), c := decide (255 < r) }) ∧
    (∀ (p : Flags) (a m : Byte), addFlags p a m =
      { arithmetic p (a.toNat + m.toNat + p.c.toNat) with v := (addFlags p a m).v }) ∧
    (∀ (p : Flags) (m : Byte), shiftFlags p (shiftLeft m false) = arithmetic p (m.toNat * 2)) ∧
    (∀ (p : Flags) (m : Byte), (arithmetic p (m.toNat / 2)).c = false ∧
      (shiftFlags p (shiftRight m false)).c = m.getLsbD 0)

/-- If no device before d in the list contains the address and d does, then d is the owner, a bus read answers d's byte and leaves
the state d's read leaves, and a bus write leaves the state d's write leaves. (R64) -/
def Obligations.FirstClaimingDeviceIsReached : Prop :=
  ∀ (s : State) (before after : List Slot) (d : Slot) (a : Word) (v : Byte), s.devices = before ++ d :: after →
    (∀ e ∈ before, e.contains a = false) → d.contains a = true →
    s.owner a = some d ∧ busRead a s = .ok (d.byteAt s a, d.afterRead s a) ∧ busWrite a v s = .ok (d.afterWrite s a v)

/-- If no device of the list contains the address, a bus read and a bus write both fault with unmappedAccess of it; whenever a bus
read or a bus write of any address faults, the fault is unmappedAccess of that address and no device claims it; with the
console's device list every address is claimed. (R65) -/
def Obligations.UnclaimedAccessIsFatal : Prop :=
  (∀ (s : State) (a : Word) (v : Byte), (∀ d ∈ s.devices, d.contains a = false) →
      busRead a s = .error (.unmappedAccess a) ∧ busWrite a v s = .error (.unmappedAccess a)) ∧
    (∀ (s : State) (a : Word) (v : Byte) (f : Fault), busRead a s = .error f ∨ busWrite a v s = .error f →
      f = .unmappedAccess a ∧ s.claimed a = false) ∧
    (∀ s : State, s.onConsole → ∀ a : Word, s.claimed a = true)

/-- For a RAM segment d that owns a and b: a read of a leaves the state as it was and answers the cell at the index of a; after
writing v at a, the byte at b is v if b has the same index and the old byte otherwise, and nothing but RAM has changed. The
reading back at every address with the same index is the spec's own derivation (R71, from R70). (R70, R71) -/
def Obligations.RamWriteChangesOneCell : Prop :=
  ∀ (s : State) (a b : Word) (v : Byte) (d : Slot), s.owner a = some d → s.owner b = some d → d.kind = .ram →
    s.touch a = s ∧ s.byteAt a = s.ram.read (d.index a) ∧ d.index a = (a.toNat - d.base) % d.capacity ∧
    (s.store a v).byteAt b = (if d.index b = d.index a then v else s.byteAt b) ∧
    s.store a v = { s with ram := (s.store a v).ram }

/-- With the console's device list, addresses below 2000 belong to RAM, below 4000 to the PPU block, below 4020 to the I/O block,
and the rest to the cartridge; every address is contained by exactly one device of the list. The list order is the spec's
decision (D13). For a below 800 and any two of the four mirrors, a byte stored at a + 800 j is read at a + 800 k; this holds of
the stack page too. The rule is the spec's own derivation (R73, R46). (20_memory.md section 4, 10_state.md section 8) -/
def Obligations.ConsoleMapOwnersAndMirrors : Prop :=
  (∀ s : State, s.onConsole → ∀ a : Word,
    (s.owner a).map Slot.kind = some (if a.toNat < 0x2000 then .ram else if a.toNat < 0x4000 then .ppu
      else if a.toNat < 0x4020 then .io else .cartridge) ∧
    (s.devices.filter fun d => d.contains a).length = 1) ∧
    (∀ (s : State) (a j k : Nat) (v : Byte), s.onConsole → a < 0x800 → j < 4 → k < 4 →
    (s.store (BitVec.ofNat 16 (a + 0x800 * j)) v).byteAt (BitVec.ofNat 16 (a + 0x800 * k)) = v)

/-- With the console's map, an address from 8000 below C000 reads bank 0 at its offset, an address from C000 reads the last bank at
its offset, and reads and writes of both leave the state as it was. The upper window of a one-bank image and the ignored writes
are the spec's decisions (D14). (20_memory.md section 4) -/
def Obligations.RomWindowsShowTheBanks : Prop :=
  ∀ (s : State) (a : Word) (v : Byte) (first last : Memory), s.onConsole → s.cart.image.prg.head? = some first →
    s.cart.image.prg.getLast? = some last → 0x8000 ≤ a.toNat →
    s.byteAt a = (if a.toNat < 0xC000 then first.read (a.toNat - 0x8000) else last.read (a.toNat - 0xC000)) ∧
    s.touch a = s ∧ s.store a v = s

/-- With the console's map and free windows: a read of the PPU block answers the free value of register (a - 2000) mod 8 and adds
that read to its history, a write adds the write; likewise for the I/O block with register a - 4000; nothing else changes. The
history is the model's own (log 1); the answer holds for every value of Config.deviceRead. With the console's map, at every
address from 4020 below 8000: with the stub it reads 00 and a read or write leaves the state as it was; with a free window it
answers the free value of that address, a read adds that read to the window's history, a write that write, and nothing else
changes. The stub is the spec's decision (D14, log 8), the history the model's (log 1); the answer holds for every value of
Config.deviceRead. (R66, 20_memory.md section 4) -/
def Obligations.DeviceWindowsSeeEveryAccess : Prop :=
  (∀ (s : State) (a : Word) (v : Byte), s.onConsole → s.ppu.mode = .free → s.io.mode = .free →
    (0x2000 ≤ a.toNat → a.toNat < 0x4000 →
      s.byteAt a = Config.deviceRead .ppu s.ppu.history s.ppu.outside ((a.toNat - 0x2000) % 8) ∧
      s.touch a = { s with ppu := { s.ppu with history := .read ((a.toNat - 0x2000) % 8) :: s.ppu.history } } ∧
      s.store a v = { s with ppu := { s.ppu with history := .write ((a.toNat - 0x2000) % 8) v :: s.ppu.history } }) ∧
    (0x4000 ≤ a.toNat → a.toNat < 0x4020 →
      s.byteAt a = Config.deviceRead .io s.io.history s.io.outside (a.toNat - 0x4000) ∧
      s.touch a = { s with io := { s.io with history := .read (a.toNat - 0x4000) :: s.io.history } } ∧
      s.store a v = { s with io := { s.io with history := .write (a.toNat - 0x4000) v :: s.io.history } })) ∧
    (∀ (s : State) (a : Word) (v : Byte), s.onConsole → 0x4020 ≤ a.toNat → a.toNat < 0x8000 →
      (s.cart.low.mode = .stub → s.byteAt a = 0x00 ∧ s.touch a = s ∧ s.store a v = s) ∧
      (s.cart.low.mode = .free →
        s.byteAt a = Config.deviceRead .cartLow s.cart.low.history s.cart.low.outside a.toNat ∧
        s.touch a = { s with cart := { s.cart with low := { s.cart.low with history := .read a.toNat :: s.cart.low.history } } } ∧
        s.store a v =
          { s with cart := { s.cart with low := { s.cart.low with history := .write a.toNat v :: s.cart.low.history } } }))

/-- Where every address has an owner: push8 stores the byte at 0100 + S and leaves S - 1; pull8 leaves S + 1 and answers the byte at
0100 + (S + 1); push16 stores the high byte at 0100 + S and the low byte at 0100 + (S - 1); pull16 reads the low byte first;
each wraps S modulo 256, with push16 at S = 00 writing at 0100 and 01FF. (R40, R41, R42, R43) -/
def Obligations.PushAndPullMoveOneSlot : Prop :=
  ∀ (s : State), s.covered →
    (∀ b : Byte, push8 b s = .ok { s.store (0x0100 + s.sp.setWidth 16) b with sp := s.sp - 1 }) ∧
    pull8 s = .ok (s.byteAt (0x0100 + (s.sp + 1).setWidth 16), { s.touch (0x0100 + (s.sp + 1).setWidth 16) with sp := s.sp + 1 }) ∧
    (∀ w : Word, push16 w s = .ok { (s.store (0x0100 + s.sp.setWidth 16) (w.extractLsb' 8 8)).store
      (0x0100 + (s.sp - 1).setWidth 16) (w.extractLsb' 0 8) with sp := s.sp - 2 }) ∧
    pull16 s = .ok ((s.touch (0x0100 + (s.sp + 1).setWidth 16)).byteAt (0x0100 + (s.sp + 2).setWidth 16) ++
        s.byteAt (0x0100 + (s.sp + 1).setWidth 16),
      { (s.touch (0x0100 + (s.sp + 1).setWidth 16)).touch (0x0100 + (s.sp + 2).setWidth 16) with sp := s.sp + 2 }) ∧
    (s.sp = 0x00 → ∀ w : Word, push16 w s = .ok { (s.store 0x0100 (w.extractLsb' 8 8)).store 0x01FF (w.extractLsb' 0 8) with
      sp := 0xFE })

/-- With the console's map, for every state: push8 of x answers a state from which pull8 answers x and a state with the old S, every
register and flag as before; push16 and pull16 likewise. S = 00 wraps to FF on the push. (R45) -/
def Obligations.PullAfterPushReturnsTheByte : Prop :=
  ∀ (s : State), s.onConsole →
    (∀ x : Byte, ∃ t u, push8 x s = .ok t ∧ pull8 t = .ok (x, u) ∧ u = { s with ram := u.ram } ∧ (s.sp = 0x00 → t.sp = 0xFF)) ∧
    (∀ w : Word, ∃ t u, push16 w s = .ok t ∧ pull16 t = .ok (w, u) ∧ u = { s with ram := u.ram })

/-- Where every address has an owner and reset_pending is set, whatever else is pending, the step leaves S = FF, I = 1, PC = the
word at FFFC, reset_pending and nmi_pending clear, and A, X, Y, C, Z, D, V, N and RAM as they were; its only accesses are the
two vector reads. I and nmi_pending are the spec's decision (D9), the priority too (D8). (70_reset_and_hazards.md section 1) -/
def Obligations.ResetStepLoadsTheVector : Prop :=
  ∀ s : State, s.covered → s.resetPending = true →
    step s = .next { (s.touch 0xFFFC).touch 0xFFFD with
      sp := 0xFF, p := { s.p with i := true }, pc := (s.touch 0xFFFC).byteAt 0xFFFD ++ s.byteAt 0xFFFC,
      resetPending := false, nmiPending := false }

/-- Where every address has an owner, reset_pending is clear and nmi_pending set, the step clears nmi_pending, pushes PC (high, low)
and the status byte with bit 5 set and bit 4 clear, sets I and loads PC from FFFA. Priority, masking and the setting of I are
the spec's decisions (D7, D8). Where every address has an owner, no reset or NMI is pending, irq_line is 1 and I is 0, the step
pushes PC and the status byte with bit 4 clear, sets I and loads PC from FFFE; irq_line is not cleared. The spec's decisions
(D7, D8). (60_exceptions.md sections 2 to 4) -/
def Obligations.InterruptStepsEnter : Prop :=
  (∀ s : State, s.covered → s.resetPending = false → s.nmiPending = true →
    step s = .next (Claims.entered { s with nmiPending := false } s.pc (Claims.statusByte s.p false) 0xFFFA)) ∧
    (∀ s : State, s.covered → s.resetPending = false → s.nmiPending = false → s.irqLine = true → s.p.i = false →
    step s = .next (Claims.entered s s.pc (Claims.statusByte s.p false) 0xFFFE))

/-- With I set, a step from a state that leaves t leaves, from the same state with the other level of irq_line, the state t with
that level. The masking is the spec's decision (D8). (60_exceptions.md section 2) -/
def Obligations.MaskedIrqLeavesTheStepAlone : Prop :=
  ∀ (s t : State) (level : Bool), s.p.i = true → step s = .next t →
    step { s with irqLine := level } = .next { t with irqLine := level }

/-- State.reset has S = FF, I = 1, reset_pending and nmi_pending clear, the console's map, and PC the word at FFFC; the power-on
state has reset_pending set and its first step answers State.reset. I = 1 is the spec's decision (D9); that the other registers
hold 0 in both states is the model's choice (log 3, log 4, log 5). (10_state.md section 10, 70_reset_and_hazards.md section 1) -/
def Obligations.ResetStateIsAsTheSpecSays : Prop :=
  State.reset.sp = 0xFF ∧ State.reset.p.i = true ∧ State.reset.resetPending = false ∧ State.reset.nmiPending = false ∧
    State.reset.onConsole ∧ State.reset.pc = State.reset.byteAt 0xFFFD ++ State.reset.byteAt 0xFFFC ∧
    State.powerOn.resetPending = true ∧ step State.powerOn = .next State.reset

/-- Each move of the environment changes its one input: the reset and NMI requests set their latch (twice is as once), the IRQ move
drives the level, a device move changes that device's outside number and nothing else. The three inputs are the spec's decision
(D18), the outside number the model's (log 1). (60_exceptions.md section 2, 70_reset_and_hazards.md section 3) -/
def Obligations.EnvironmentDrivesOnlyItsInputs : Prop :=
  ∀ (s : State) (level : Bool) (n : Nat),
    environment .requestReset s = { s with resetPending := true } ∧ environment .requestNmi s = { s with nmiPending := true } ∧
    environment .requestNmi (environment .requestNmi s) = environment .requestNmi s ∧
    environment (.driveIrq level) s = { s with irqLine := level } ∧
    environment (.ppuAdvances n) s = { s with ppu := { s.ppu with outside := n } } ∧
    environment (.ioAdvances n) s = { s with io := { s.io with outside := n } } ∧
    environment (.cartridgeAdvances n) s = { s with cart := { s.cart with low := { s.cart.low with outside := n } } }

/-- Construction succeeds, with the image as given, exactly when the mapper number is 0, the image has one or two PRG banks and no
more than one CHR bank; otherwise it is rejected. The capacities are the spec's derivation and general knowledge (R79, D14);
that an image with no PRG bank is rejected too is the model's deduction (log 5). (20_memory.md section 4) -/
def Obligations.CartridgeAcceptsOnlyFittingImages : Prop :=
  ∀ (r : RomImage) (low : Port),
    (Cartridge.construct r low = .ok ⟨r, low⟩ ↔ r.mapper = 0 ∧ 1 ≤ r.prg.length ∧ r.prg.length ≤ 2 ∧ r.chr.length ≤ 1) ∧
    ((∃ e, Cartridge.construct r low = .error e) ↔ ¬(r.mapper = 0 ∧ 1 ≤ r.prg.length ∧ r.prg.length ≤ 2 ∧ r.chr.length ≤ 1))

/-- Where every address has an owner, LDA (ldaImm, ldaZp, ldaZpx, ldaAbs, ldaAbx, ldaAby, ldaIzx, ldaIzy) answers a next state: A is
the operand byte, Z and N come from it, every other register, flag and RAM cell is unchanged; the only other change is what the
device reads of the mode and the operand do. The forms, opcode bytes and modes are the spec's own general knowledge (D2; log
10). (R170, R34, R136) -/
def Obligations.LdaCopiesTheOperandIntoA : Prop :=
  ∀ (s : State) (d8 : Byte) (d16 : Word), s.covered →
    exec (.ldaImm d8) s = .next { s with a := d8, p := { s.p with z := decide (d8 = 0), n := d8.getLsbD 7 } } ∧
    ∀ q ∈ ([(.ldaZp d8, .zp d8), (.ldaZpx d8, .zpx d8), (.ldaAbs d16, .abs d16), (.ldaAbx d16, .abx d16),
        (.ldaAby d16, .aby d16), (.ldaIzx d8, .izx d8), (.ldaIzy d8, .izy d8)] : List (Instr × MemForm)),
      exec q.1 s = .next { s.afterOperand q.2 with a := s.operand q.2, p := { s.p with
        z := decide (s.operand q.2 = 0), n := (s.operand q.2).getLsbD 7 } }

/-- ZP, ZPX, ZPY stay below 100 with their sums modulo 256; ABS, ABX, ABY are the operand word plus the index modulo 65536; IZX and
IZY read a pointer from p and p + 1, IZY then adds Y; a pointer at FF takes its high byte from 0100; X and Y are unchanged and
only IZX and IZY read anything. The modes are the spec's own general knowledge and decisions (D2, D4, D15, log 10). Where every
address has an owner, readWord of a answers the byte at a as low byte and the byte then read at a + 1 as high byte, and leaves
the state after those two reads. That the second address never wraps within a page and that the low byte is read first are the
spec's decisions (D4, D12). (40_addressing_and_step.md section 3, 20_memory.md section 1, R80) -/
def Obligations.EffectiveAddressesOfTheModes : Prop :=
  (∀ (s : State) (d8 : Byte) (d16 : Word),
    (s.effective (.zp d8)).toNat = d8.toNat ∧ (s.effective (.zpx d8)).toNat = (d8.toNat + s.x.toNat) % 256 ∧
    (s.effective (.zpy d8)).toNat = (d8.toNat + s.y.toNat) % 256 ∧ s.effective (.abs d16) = d16 ∧
    (s.effective (.abx d16)).toNat = (d16.toNat + s.x.toNat) % 65536 ∧
    (s.effective (.aby d16)).toNat = (d16.toNat + s.y.toNat) % 65536 ∧
    s.effective (.izx d8) = Claims.pointed s ((d8 + s.x).setWidth 16) ∧
    (s.effective (.izy d8)).toNat = ((Claims.pointed s (d8.setWidth 16)).toNat + s.y.toNat) % 65536 ∧
    (d8 + s.x = 0xFF → s.effective (.izx d8) = (s.touch 0x00FF).byteAt 0x0100 ++ s.byteAt 0x00FF) ∧
    s.afterMode (.izx d8) = (s.touch ((d8 + s.x).setWidth 16)).touch ((d8 + s.x).setWidth 16 + 1) ∧
    s.afterMode (.izy d8) = (s.touch (d8.setWidth 16)).touch (d8.setWidth 16 + 1) ∧
    (∀ f ∈ ([.zp d8, .zpx d8, .zpy d8, .abs d16, .abx d16, .aby d16] : List MemForm), s.afterMode f = s)) ∧
    (∀ (s : State) (a : Word), s.covered →
    readWord a s = .ok (word ((s.touch a).byteAt (a + 1)) (s.byteAt a), (s.touch a).touch (a + 1)))

/-- Where every address has an owner, LDX (ldxImm, ldxZp, ldxZpy, ldxAbs, ldxAby) answers a next state: X is the operand byte, Z and
N come from it, every other register, flag and RAM cell is unchanged; the only other change is what the device reads of the mode
and the operand do. Where every address has an owner, LDY (ldyImm, ldyZp, ldyZpx, ldyAbs, ldyAbx) answers a next state: Y is the
operand byte, Z and N come from it, every other register, flag and RAM cell is unchanged; the only other change is what the
device reads of the mode and the operand do. The forms, opcode bytes and modes are the spec's own general knowledge (D2; log
10). (R171, R34, R136, R172) -/
def Obligations.LdxAndLdyCopyTheOperand : Prop :=
  (∀ (s : State) (d8 : Byte) (d16 : Word), s.covered →
    exec (.ldxImm d8) s = .next { s with x := d8, p := { s.p with z := decide (d8 = 0), n := d8.getLsbD 7 } } ∧
    ∀ q ∈ ([(.ldxZp d8, .zp d8), (.ldxZpy d8, .zpy d8), (.ldxAbs d16, .abs d16), (.ldxAby d16, .aby d16)] : List (Instr × MemForm)),
      exec q.1 s = .next { s.afterOperand q.2 with x := s.operand q.2, p := { s.p with
        z := decide (s.operand q.2 = 0), n := (s.operand q.2).getLsbD 7 } }) ∧
    (∀ (s : State) (d8 : Byte) (d16 : Word), s.covered →
    exec (.ldyImm d8) s = .next { s with y := d8, p := { s.p with z := decide (d8 = 0), n := d8.getLsbD 7 } } ∧
    ∀ q ∈ ([(.ldyZp d8, .zp d8), (.ldyZpx d8, .zpx d8), (.ldyAbs d16, .abs d16), (.ldyAbx d16, .abx d16)] : List (Instr × MemForm)),
      exec q.1 s = .next { s.afterOperand q.2 with y := s.operand q.2, p := { s.p with
        z := decide (s.operand q.2 = 0), n := (s.operand q.2).getLsbD 7 } })

/-- Where every address has an owner, STA, STX, STY (staZp, staZpx, staAbs, staAbx, staAby, staIzx, staIzy, stxZp, stxZpy, stxAbs,
styZp, styZpx, styAbs) answer the state after the mode's own reads with the register stored at the effective address: one write,
no other change. The forms, opcode bytes and modes are the spec's own general knowledge (D2; log 10). (R173, R174, R175, R135) -/
def Obligations.StoresWriteTheRegister : Prop :=
  ∀ (s : State) (d8 : Byte) (d16 : Word), s.covered →
    (∀ q ∈ ([(.staZp d8, .zp d8), (.staZpx d8, .zpx d8), (.staAbs d16, .abs d16), (.staAbx d16, .abx d16),
        (.staAby d16, .aby d16), (.staIzx d8, .izx d8), (.staIzy d8, .izy d8)] : List (Instr × MemForm)),
      exec q.1 s = .next ((s.afterMode q.2).store (s.effective q.2) s.a)) ∧
    (∀ q ∈ ([(.stxZp d8, .zp d8), (.stxZpy d8, .zpy d8), (.stxAbs d16, .abs d16)] : List (Instr × MemForm)),
      exec q.1 s = .next ((s.afterMode q.2).store (s.effective q.2) s.x)) ∧
    (∀ q ∈ ([(.styZp d8, .zp d8), (.styZpx d8, .zpx d8), (.styAbs d16, .abs d16)] : List (Instr × MemForm)),
      exec q.1 s = .next ((s.afterMode q.2).store (s.effective q.2) s.y))

/-- The six transfers (tax, tay, txa, tya, tsx, txs) answer a next state in which the destination holds the source, Z and N follow
it (not for TXS) and nothing else changes. The directions are the spec's reading of the mnemonics (D25). INX, INY, DEX, DEY
(inx, iny, dex, dey) answer a next state with the register plus or minus 1 modulo 256, Z and N of the result and nothing else
changed. INY and DEX are named only by the spec's reading (D24); the opcode bytes are general knowledge (D2). The seven flag
instructions (clc, sec, cld, sed, cli, sei, clv) answer the state with C, D, I or V set or cleared and nothing else changed.
Which flag and value is the spec's reading of the mnemonics (D25). (41_load_store_transfer.md section Register transfers, R34,
R194, R195, R196, R197, 46_flag_compare.md section Flag set and clear) -/
def Obligations.RegisterAndFlagInstructions : Prop :=
  (∀ s : State,
    exec .tax s = .next { s with x := s.a, p := { s.p with z := decide (s.a = 0), n := s.a.getLsbD 7 } } ∧
    exec .tay s = .next { s with y := s.a, p := { s.p with z := decide (s.a = 0), n := s.a.getLsbD 7 } } ∧
    exec .txa s = .next { s with a := s.x, p := { s.p with z := decide (s.x = 0), n := s.x.getLsbD 7 } } ∧
    exec .tya s = .next { s with a := s.y, p := { s.p with z := decide (s.y = 0), n := s.y.getLsbD 7 } } ∧
    exec .tsx s = .next { s with x := s.sp, p := { s.p with z := decide (s.sp = 0), n := s.sp.getLsbD 7 } } ∧
    exec .txs s = .next { s with sp := s.x }) ∧
    (∀ s : State,
    exec .inx s = .next { s with x := s.x + 1, p := { s.p with z := decide (s.x + 1 = 0), n := (s.x + 1).getLsbD 7 } } ∧
    exec .iny s = .next { s with y := s.y + 1, p := { s.p with z := decide (s.y + 1 = 0), n := (s.y + 1).getLsbD 7 } } ∧
    exec .dex s = .next { s with x := s.x - 1, p := { s.p with z := decide (s.x - 1 = 0), n := (s.x - 1).getLsbD 7 } } ∧
    exec .dey s = .next { s with y := s.y - 1, p := { s.p with z := decide (s.y - 1 = 0), n := (s.y - 1).getLsbD 7 } }) ∧
    (∀ s : State,
    exec .clc s = .next { s with p := { s.p with c := false } } ∧ exec .sec s = .next { s with p := { s.p with c := true } } ∧
    exec .cld s = .next { s with p := { s.p with d := false } } ∧ exec .sed s = .next { s with p := { s.p with d := true } } ∧
    exec .cli s = .next { s with p := { s.p with i := false } } ∧ exec .sei s = .next { s with p := { s.p with i := true } } ∧
    exec .clv s = .next { s with p := { s.p with v := false } })

/-- Where every address has an owner, ADC (adcImm, adcZp, adcZpx, adcAbs, adcAbx, adcAby, adcIzx, adcIzy) answers a next state with
A the low byte of A + m + C, C set when the sum exceeds FF, V set exactly when the signed sum leaves -128..127, Z and N of the
result, I and D unchanged and D not read; nothing else changes but what the device reads do. The forms, opcode bytes and modes
are the spec's own general knowledge (D2; log 10). (R190, R198) -/
def Obligations.AdcAddsWithCarry : Prop :=
  ∀ (s : State) (d8 : Byte) (d16 : Word), s.covered →
    exec (.adcImm d8) s = .next (Claims.sumInA s d8) ∧
    ∀ q ∈ ([(.adcZp d8, .zp d8), (.adcZpx d8, .zpx d8), (.adcAbs d16, .abs d16), (.adcAbx d16, .abx d16),
        (.adcAby d16, .aby d16), (.adcIzx d8, .izx d8), (.adcIzy d8, .izy d8)] : List (Instr × MemForm)),
      exec q.1 s = .next (Claims.sumInA (s.afterOperand q.2) (s.operand q.2))

/-- Where every address has an owner, SBC (sbcImm, sbcZp, sbcZpx, sbcAbs, sbcAbx, sbcAby, sbcIzx, sbcIzy) answers a next state with
A = A - m - (1 - C) modulo 256, C set exactly when A >= m + (1 - C), V set exactly when the signed difference leaves -128..127,
Z and N of the result, I and D unchanged; and it answers what ADC of the complemented operand answers. The forms, opcode bytes
and modes are the spec's own general knowledge (D2; log 10). (R191, R198) -/
def Obligations.SbcSubtractsWithBorrow : Prop :=
  ∀ (s : State) (d8 : Byte) (d16 : Word), s.covered →
    exec (.sbcImm d8) s = .next (Claims.differenceInA s d8) ∧ exec (.sbcImm d8) s = exec (.adcImm (~~~d8)) s ∧
    ∀ q ∈ ([(.sbcZp d8, .zp d8), (.sbcZpx d8, .zpx d8), (.sbcAbs d16, .abs d16), (.sbcAbx d16, .abx d16),
        (.sbcAby d16, .aby d16), (.sbcIzx d8, .izx d8), (.sbcIzy d8, .izy d8)] : List (Instr × MemForm)),
      exec q.1 s = .next (Claims.differenceInA (s.afterOperand q.2) (s.operand q.2))

/-- Where every address has an owner, INC and DEC (incZp, incZpx, incAbs, incAbx, decZp, decZpx, decAbs, decAbx) answer a next state
in which the effective address was read once and written once with the byte plus or minus 1, Z and N follow the byte written,
and nothing else changes. The forms, opcode bytes and modes are the spec's own general knowledge (D2; log 10). (R192, R193) -/
def Obligations.IncrementAndDecrementMemory : Prop :=
  ∀ (s : State) (d8 : Byte) (d16 : Word), s.covered →
    (∀ q ∈ ([(.incZp d8, .zp d8), (.incZpx d8, .zpx d8), (.incAbs d16, .abs d16), (.incAbx d16, .abx d16)] : List (Instr × MemForm)),
      exec q.1 s = .next { (s.afterOperand q.2).store (s.effective q.2) (s.operand q.2 + 1) with p := { s.p with
        z := decide (s.operand q.2 + 1 = 0), n := (s.operand q.2 + 1).getLsbD 7 } }) ∧
    (∀ q ∈ ([(.decZp d8, .zp d8), (.decZpx d8, .zpx d8), (.decAbs d16, .abs d16), (.decAbx d16, .abx d16)] : List (Instr × MemForm)),
      exec q.1 s = .next { (s.afterOperand q.2).store (s.effective q.2) (s.operand q.2 - 1) with p := { s.p with
        z := decide (s.operand q.2 - 1 = 0), n := (s.operand q.2 - 1).getLsbD 7 } })

/-- Where every address has an owner, AND, ORA, EOR (andImm, andZp, andZpx, andAbs, andAbx, andAby, andIzx, andIzy, oraImm, oraZp,
oraZpx, oraAbs, oraAbx, oraAby, oraIzx, oraIzy, eorImm, eorZp, eorZpx, eorAbs, eorAbx, eorAby, eorIzx, eorIzy) answer a next
state with A the and, or, exclusive or of A and the operand, Z and N of it, and nothing else changed but what the device reads
do. Which operation each is, is the spec's reading (D25). Where every address has an owner, BIT (bitZp, bitAbs) answers a next
state with Z set when A AND m is 0, N and V bits 7 and 6 of the operand, and nothing else changed but what the device read does.
The forms, opcode bytes and modes are the spec's own general knowledge (D2; log 10). (43_bitwise_shift.md section Bitwise with
the accumulator, R34, R217) -/
def Obligations.BitwiseInstructionsAndBit : Prop :=
  (∀ (s : State) (d8 : Byte) (d16 : Word), s.covered →
    (exec (.andImm d8) s = .next (Claims.resultInA s (s.a &&& d8)) ∧
      ∀ q ∈ ([(.andZp d8, .zp d8), (.andZpx d8, .zpx d8), (.andAbs d16, .abs d16), (.andAbx d16, .abx d16),
        (.andAby d16, .aby d16), (.andIzx d8, .izx d8), (.andIzy d8, .izy d8)] : List (Instr × MemForm)),
        exec q.1 s = .next (Claims.resultInA (s.afterOperand q.2) (s.a &&& s.operand q.2))) ∧
    (exec (.oraImm d8) s = .next (Claims.resultInA s (s.a ||| d8)) ∧
      ∀ q ∈ ([(.oraZp d8, .zp d8), (.oraZpx d8, .zpx d8), (.oraAbs d16, .abs d16), (.oraAbx d16, .abx d16),
        (.oraAby d16, .aby d16), (.oraIzx d8, .izx d8), (.oraIzy d8, .izy d8)] : List (Instr × MemForm)),
        exec q.1 s = .next (Claims.resultInA (s.afterOperand q.2) (s.a ||| s.operand q.2))) ∧
    (exec (.eorImm d8) s = .next (Claims.resultInA s (s.a ^^^ d8)) ∧
      ∀ q ∈ ([(.eorZp d8, .zp d8), (.eorZpx d8, .zpx d8), (.eorAbs d16, .abs d16), (.eorAbx d16, .abx d16),
        (.eorAby d16, .aby d16), (.eorIzx d8, .izx d8), (.eorIzy d8, .izy d8)] : List (Instr × MemForm)),
        exec q.1 s = .next (Claims.resultInA (s.afterOperand q.2) (s.a ^^^ s.operand q.2)))) ∧
    (∀ (s : State) (d8 : Byte) (d16 : Word), s.covered →
    ∀ q ∈ ([(.bitZp d8, .zp d8), (.bitAbs d16, .abs d16)] : List (Instr × MemForm)),
      exec q.1 s = .next { s.afterOperand q.2 with p := { s.p with
        z := decide (s.a &&& s.operand q.2 = 0), n := (s.operand q.2).getLsbD 7, v := (s.operand q.2).getLsbD 6 } })

/-- Where every address has an owner, ASL and LSR (aslAcc, aslZp, aslZpx, aslAbs, aslAbx, lsrAcc, lsrZp, lsrZpx, lsrAbs, lsrAbx)
answer a next state in which A or the byte at the effective address is 2m modulo 256 or m div 2, C is bit 7 or bit 0 of m, Z and
N follow the result, and nothing else changes. LSR's carry follows C1 of 90_conflicts.md. The forms, opcode bytes and modes are
the spec's own general knowledge (D2; log 10). (R8, 43_bitwise_shift.md section Shifts) -/
def Obligations.ShiftsMoveOneBitIntoCarry : Prop :=
  ∀ (s : State) (d8 : Byte) (d16 : Word), s.covered →
    (exec .aslAcc s = .next (Claims.shifted { s with a := BitVec.ofNat 8 (s.a.toNat * 2) } (BitVec.ofNat 8 (s.a.toNat * 2)) (s.a.getLsbD 7)) ∧
      ∀ q ∈ ([(.aslZp d8, .zp d8), (.aslZpx d8, .zpx d8), (.aslAbs d16, .abs d16), (.aslAbx d16, .abx d16)] : List (Instr × MemForm)),
        exec q.1 s = .next (Claims.shifted ((s.afterOperand q.2).store (s.effective q.2) (BitVec.ofNat 8 ((s.operand q.2).toNat * 2)))
          (BitVec.ofNat 8 ((s.operand q.2).toNat * 2)) ((s.operand q.2).getLsbD 7))) ∧
    (exec .lsrAcc s = .next (Claims.shifted { s with a := BitVec.ofNat 8 (s.a.toNat / 2) } (BitVec.ofNat 8 (s.a.toNat / 2)) (s.a.getLsbD 0)) ∧
      ∀ q ∈ ([(.lsrZp d8, .zp d8), (.lsrZpx d8, .zpx d8), (.lsrAbs d16, .abs d16), (.lsrAbx d16, .abx d16)] : List (Instr × MemForm)),
        exec q.1 s = .next (Claims.shifted ((s.afterOperand q.2).store (s.effective q.2) (BitVec.ofNat 8 ((s.operand q.2).toNat / 2)))
          (BitVec.ofNat 8 ((s.operand q.2).toNat / 2)) ((s.operand q.2).getLsbD 0)))

/-- Where every address has an owner, ROL and ROR (rolAcc, rolZp, rolZpx, rolAbs, rolAbx, rorAcc, rorZp, rorZpx, rorAbs, rorAbx)
answer a next state in which A or the byte at the effective address is 2m + C modulo 256 or m div 2 + 128 C with the carry
before the instruction, C is bit 7 or bit 0 of m, Z and N follow the result, and nothing else changes. The forms, opcode bytes
and modes are the spec's own general knowledge (D2; log 10). (R9, 43_bitwise_shift.md section Rotates through carry) -/
def Obligations.RotatesPassThroughCarry : Prop :=
  ∀ (s : State) (d8 : Byte) (d16 : Word), s.covered →
    (exec .rolAcc s = .next (Claims.shifted { s with a := BitVec.ofNat 8 (s.a.toNat * 2 + s.p.c.toNat) } (BitVec.ofNat 8 (s.a.toNat * 2 + s.p.c.toNat)) (s.a.getLsbD 7)) ∧
      ∀ q ∈ ([(.rolZp d8, .zp d8), (.rolZpx d8, .zpx d8), (.rolAbs d16, .abs d16), (.rolAbx d16, .abx d16)] : List (Instr × MemForm)),
        exec q.1 s = .next (Claims.shifted ((s.afterOperand q.2).store (s.effective q.2) (BitVec.ofNat 8 ((s.operand q.2).toNat * 2 + s.p.c.toNat)))
          (BitVec.ofNat 8 ((s.operand q.2).toNat * 2 + s.p.c.toNat)) ((s.operand q.2).getLsbD 7))) ∧
    (exec .rorAcc s = .next (Claims.shifted { s with a := BitVec.ofNat 8 (s.a.toNat / 2 + 128 * s.p.c.toNat) } (BitVec.ofNat 8 (s.a.toNat / 2 + 128 * s.p.c.toNat)) (s.a.getLsbD 0)) ∧
      ∀ q ∈ ([(.rorZp d8, .zp d8), (.rorZpx d8, .zpx d8), (.rorAbs d16, .abs d16), (.rorAbx d16, .abx d16)] : List (Instr × MemForm)),
        exec q.1 s = .next (Claims.shifted ((s.afterOperand q.2).store (s.effective q.2) (BitVec.ofNat 8 ((s.operand q.2).toNat / 2 + 128 * s.p.c.toNat)))
          (BitVec.ofNat 8 ((s.operand q.2).toNat / 2 + 128 * s.p.c.toNat)) ((s.operand q.2).getLsbD 0)))

/-- BCC, BCS, BEQ, BNE, BMI, BPL, BVC, BVS (bcc, bcs, beq, bne, bmi, bpl, bvc, bvs) answer a next state: taken, PC is the address of
the next instruction plus the sign-extended operand modulo 65536; not taken, the state as it was; no flag or register changes.
Flag and polarity are the spec's reading (D25), the displacement its general knowledge (D2). (44_branch.md section of the common
branch rule, 40_addressing_and_step.md section 3) -/
def Obligations.BranchesGoToTheTargetWhenTaken : Prop :=
  ∀ (s : State) (d8 : Byte),
    ∀ q ∈ ([(.bcc d8, !s.p.c), (.bcs d8, s.p.c), (.beq d8, s.p.z), (.bne d8, !s.p.z), (.bmi d8, s.p.n), (.bpl d8, !s.p.n),
        (.bvc d8, !s.p.v), (.bvs d8, s.p.v)] : List (Instr × Bool)),
      exec q.1 s = .next (if q.2 then { s with pc := BitVec.ofInt 16 (s.pc.toNat + d8.toInt) } else s)

/-- JMP absolute (jmpAbs) answers the state with PC the operand word; where every address has an owner, JMP indirect (jmpInd)
answers the state after the two pointer reads with PC the word read at w and w + 1 modulo 65536. The mode and the missing page
wrap are the spec's general knowledge and decision (D2, D4). Where every address has an owner, JSR (jsr) stores the high byte of
PC - 1 at 0100 + S and the low byte at 0100 + (S - 1), leaves S - 2 and PC the target; RTS (rts) reads 0100 + (S + 1) and 0100 +
(S + 2), leaves S + 2 and PC the word plus 1; no flag or other register changes. The opcode bytes and the order of accesses are
the spec's own (D2, D12). (R245, R246, R247) -/
def Obligations.JumpsCallsAndReturns : Prop :=
  (∀ (s : State) (d16 : Word), exec (.jmpAbs d16) s = .next { s with pc := d16 } ∧
    (s.covered → exec (.jmpInd d16) s = .next { (s.touch d16).touch (d16 + 1) with pc := Claims.pointed s d16 })) ∧
    (∀ (s : State) (d16 : Word), s.covered →
    exec (.jsr d16) s = .next { (s.store (Claims.slot s 0) ((s.pc - 1).extractLsb' 8 8)).store (Claims.slot s 255)
      ((s.pc - 1).extractLsb' 0 8) with sp := s.sp - 2, pc := d16 } ∧
    exec .rts s = .next { (s.touch (Claims.slot s 1)).touch (Claims.slot s 2) with
      sp := s.sp + 2, pc := ((s.touch (Claims.slot s 1)).byteAt (Claims.slot s 2) ++ s.byteAt (Claims.slot s 1)) + 1 })

/-- Where every address has an owner, RTI (rti) reads 0100 + (S + 1), + 2, + 3, leaves S + 3, the six flags from bits 0, 1, 2, 3, 6,
7 of the first byte, PC from the other two, and A, X, Y, RAM and the interrupt inputs as they were. The opcode byte is the
spec's own (D2). (R248, R33, R312) -/
def Obligations.RtiRestoresStatusAndPc : Prop :=
  ∀ s : State, s.covered →
    exec .rti s = .next { ((s.touch (Claims.slot s 1)).touch (Claims.slot s 2)).touch (Claims.slot s 3) with
      sp := s.sp + 3, p := Claims.flagsOf (s.byteAt (Claims.slot s 1)),
      pc := ((s.touch (Claims.slot s 1)).touch (Claims.slot s 2)).byteAt (Claims.slot s 3) ++
        (s.touch (Claims.slot s 1)).byteAt (Claims.slot s 2) }

/-- Where every address has an owner, CMP, CPX, CPY (cmpImm, cmpZp, cmpZpx, cmpAbs, cmpAbx, cmpAby, cmpIzx, cmpIzy, cpxImm, cpxZp,
cpxAbs, cpyImm, cpyZp, cpyAbs) answer a next state with C set exactly when the register is at least the operand, Z when they are
equal, N bit 7 of R - m modulo 256, V, I, D and every register and RAM cell as before. The forms, opcode bytes and modes are the
spec's own general knowledge (D2; log 10). (R262, R263, R264, R265) -/
def Obligations.CompareInstructionsSetFlagsOnly : Prop :=
  ∀ (s : State) (d8 : Byte) (d16 : Word), s.covered →
    (exec (.cmpImm d8) s = .next (Claims.compared s s.a d8) ∧
      ∀ q ∈ ([(.cmpZp d8, .zp d8), (.cmpZpx d8, .zpx d8), (.cmpAbs d16, .abs d16), (.cmpAbx d16, .abx d16),
        (.cmpAby d16, .aby d16), (.cmpIzx d8, .izx d8), (.cmpIzy d8, .izy d8)] : List (Instr × MemForm)),
        exec q.1 s = .next (Claims.compared (s.afterOperand q.2) s.a (s.operand q.2))) ∧
    (exec (.cpxImm d8) s = .next (Claims.compared s s.x d8) ∧
      ∀ q ∈ ([(.cpxZp d8, .zp d8), (.cpxAbs d16, .abs d16)] : List (Instr × MemForm)),
        exec q.1 s = .next (Claims.compared (s.afterOperand q.2) s.x (s.operand q.2))) ∧
    (exec (.cpyImm d8) s = .next (Claims.compared s s.y d8) ∧
      ∀ q ∈ ([(.cpyZp d8, .zp d8), (.cpyAbs d16, .abs d16)] : List (Instr × MemForm)),
        exec q.1 s = .next (Claims.compared (s.afterOperand q.2) s.y (s.operand q.2)))

/-- For the three compares over any value operand that answers m and a state t, the result is t with only the flags changed: Z from
(R - m) mod 256 = 0, that is R = m; N bit 7 of it; C for R >= m unsigned; V, I, D kept. N, Z, C are those that ADC's computation
on the complement gives with carry set (SBC with the borrow cleared). The register and memory are unchanged. At R = 80, m = 01 N
is 0. (R262) -/
def Obligations.CompareIsSubtractionThatIsDiscarded : Prop :=
  (∀ (o : ValueOperand) (s t : State) (m : Byte), value o s = .ok (m, t) →
      opCmp o s = .ok { t with p := compareFlags t.p t.a m } ∧ opCpx o s = .ok { t with p := compareFlags t.p t.x m } ∧
      opCpy o s = .ok { t with p := compareFlags t.p t.y m }) ∧
    (∀ (p : Flags) (r m : Byte),
      compareFlags p r m = { p with
        z := decide ((r.toNat + 256 - m.toNat) % 256 = 0), n := decide (128 ≤ (r.toNat + 256 - m.toNat) % 256), c := decide (m.toNat ≤ r.toNat) } ∧
      (compareFlags p r m).z = decide (r = m) ∧
      compareFlags p r m = { addFlags { p with c := true } r (~~~m) with v := p.v } ∧
      compareFlags p r m = compareFlags { p with c := !p.c } r m) ∧
    (∀ p : Flags, (compareFlags p 0x80 0x01).n = false)

/-- Where every address has an owner: PHA (pha) stores A at 0100 + S, PHP (php) stores the status byte with bits 4 and 5 set there,
both leave S - 1 and no flag changed; PLA (pla) and PLP (plp) leave S + 1 and take the byte at 0100 + (S + 1) into A with Z and
N, or into the six flags with bits 4 and 5 dropped; nothing else changes. The opcode bytes are the spec's own (D2). (R275, R276,
R277, R278) -/
def Obligations.StackInstructionsPushAndPull : Prop :=
  ∀ s : State, s.covered →
    exec .pha s = .next { s.store (Claims.slot s 0) s.a with sp := s.sp - 1 } ∧
    exec .php s = .next { s.store (Claims.slot s 0) (Claims.statusByte s.p true) with sp := s.sp - 1 } ∧
    exec .pla s = .next { s.touch (Claims.slot s 1) with sp := s.sp + 1, a := s.byteAt (Claims.slot s 1), p := { s.p with
      z := decide (s.byteAt (Claims.slot s 1) = 0), n := (s.byteAt (Claims.slot s 1)).getLsbD 7 } } ∧
    exec .plp s = .next { s.touch (Claims.slot s 1) with sp := s.sp + 1, p := Claims.flagsOf (s.byteAt (Claims.slot s 1)) }

/-- Whenever any instruction answers a next state, A, X, Y and S are as before unless R21 or R22 lists the instruction as writing
them, and PC is as it was after the fetch unless the instruction is a branch, JMP, JSR, RTS, RTI or BRK. Whenever any
instruction answers a next state, each of C, Z, I, D, V, N is as before unless the table of R26 has it written by that
instruction. BRK's I is the spec's decision (D7). (R21, R22, R24, R26, R36) -/
def Obligations.RegistersAndFlagsChangeOnlyAsListed : Prop :=
  (∀ (i : Instr) (s t : State), exec i s = .next t →
    (∀ r : Reg, r ∉ i.registersWritten → t.reg r = s.reg r) ∧ (i.writesPc = false → t.pc = s.pc)) ∧
    (∀ (i : Instr) (s t : State), exec i s = .next t → ∀ f : Flag, f ∉ i.flagsWritten → t.p.get f = s.p.get f)

/-- Whenever any instruction answers a next state, the byte of storage behind every address is as before unless it is the RAM cell
behind one of the addresses the instruction writes (the effective address of a store or read-modify-write, the stack slots of
JSR, PHA, PHP, BRK); instructions that write no address change no byte, and the ROM image stays. That a write to ROM changes
nothing is the spec's decision (R77, D14); that a write event list is complete is its decision D12. (R71, R151, R83, R77, R20) -/
def Obligations.MemoryChangesOnlyWhereStored : Prop :=
  ∀ (i : Instr) (s t : State), exec i s = .next t →
    (∀ a : Word, (∀ b ∈ i.storedAt s, s.cellOf b ≠ s.cellOf a ∨ s.cellOf a = none) → t.stored a = s.stored a) ∧
    (∀ k : Nat, (∀ b ∈ i.storedAt s, s.cellOf b ≠ some k) → t.ram.read k = s.ram.read k) ∧ t.cart.image = s.cart.image

/-- Whenever any instruction answers a next state, reset_pending, nmi_pending, irq_line, the device list and the ROM image are as
before, and each device window has the same mode and outside number and a history that only has accesses added in front. The
inputs are the spec's decision (D18), histories the model's (log 1). (R20, R305, R66) -/
def Obligations.InstructionsLeaveTheInputsAlone : Prop :=
  ∀ (i : Instr) (s t : State), exec i s = .next t →
    t.resetPending = s.resetPending ∧ t.nmiPending = s.nmiPending ∧ t.irqLine = s.irqLine ∧ t.devices = s.devices ∧
    t.cart.image = s.cart.image ∧ s.ppu.extendedBy t.ppu ∧ s.io.extendedBy t.io ∧ s.cart.low.extendedBy t.cart.low

/-- Of every instruction and state: exec never refuses; if it faults, the fault is unmappedAccess of an address no device claims;
and where every address has an owner it answers a next state. (R300, R302) -/
def Obligations.InstructionsFaultOnlyOnUnclaimedAddresses : Prop :=
  ∀ (i : Instr) (s : State), (∀ x : Refusal, exec i s ≠ .refused x) ∧
    (∀ f : Fault, exec i s = .fault f → ∃ a, f = .unmappedAccess a ∧ s.claimed a = false) ∧ (s.covered → ∃ t, exec i s = .next t)

/-- From every state that meets the invariant (RAM in canonical form with indices below 800, every device's bounds those of a
segment, the image one the cartridge accepts), a step of any kind that answers a next state leaves a state that meets it; so
does every move of the environment. The canonical form is the model's own (log 4). (R68, R71, R73, R79) -/
def Obligations.StepKeepsTheInvariant : Prop :=
  (∀ s t : State, s.wf → step s = .next t → t.wf) ∧ (∀ (e : EnvAction) (s : State), s.wf → (environment e s).wf)

/-- State.reset has RAM in canonical form, legal device bounds and an accepted image, and every address is claimed. Its contents are
the model's choice (log 3, log 4, log 5). (R72, R50) -/
def Obligations.ResetStateMeetsTheInvariant : Prop :=
  State.reset.wf ∧ State.reset.covered

/-- Whenever a step of any kind answers a next state: the device list, the ROM image and irq_line are as before; reset_pending and
nmi_pending are set only if they were set; each device window has only accesses added. ROM writes being ignored is the spec's
decision (D14), the three inputs too (D18); the history and the outside number of a window are the model's choice (log 1), the
configuration held in State as well (log 2). (R20, R77, R305) -/
def Obligations.StepNeverChangesTheConfiguration : Prop :=
  ∀ s t : State, step s = .next t →
    t.devices = s.devices ∧ t.cart.image = s.cart.image ∧ t.irqLine = s.irqLine ∧ (t.resetPending = true → s.resetPending = true) ∧
    (t.nmiPending = true → s.nmiPending = true) ∧ s.ppu.extendedBy t.ppu ∧ s.io.extendedBy t.io ∧ s.cart.low.extendedBy t.cart.low

/-- From every state in which every address has an owner, either the step answers a next state, or no event is pending, the byte at
PC is an undefined opcode and the step faults with illegalOpcode; there is no other stop. The stop on an undefined opcode is the
spec's decision (D5), that events come first too (D8). (R14, R302, 60_exceptions.md section 1) -/
def Obligations.StepProgressesUnlessIllegal : Prop :=
  ∀ s : State, s.covered → (∃ t, step s = .next t) ∨
    (s.quiet ∧ (decodeOpcode (s.byteAt s.pc)).isNone = true ∧ step s = .fault (.illegalOpcode s.pc (s.byteAt s.pc)))

/-- For every instruction other than PHP and BRK that answers t from a state, it answers from the same state with any other value of
D a state that differs from t at most in D. That D has no effect on arithmetic is the spec's decision (D10). (R26, R198) -/
def Obligations.DecimalFlagIsOnlyCarriedAlong : Prop :=
  ∀ (i : Instr) (s t : State) (d : Bool), i.mnemonic ≠ .php → i.mnemonic ≠ .brk → exec i s = .next t →
    ∃ u : State, exec i { s with p := { s.p with d := d } } = .next u ∧ { u with p := { u.p with d := t.p.d } } = t

/-- With the console's map, from every state: JSR and then RTS answer a state with the PC past the JSR, the old S and flags; an
interrupt entry through any vector and then RTI answer a state with the old PC, S and flags; BRK and then RTI one with PC one
byte beyond the byte after the opcode, the old S and flags. BRK's return address is the spec's decision (D6). (R45, R247, R248,
R312) -/
def Obligations.ReturnsUndoCallsAndEntries : Prop :=
  ∀ s : State, s.onConsole →
    (∀ d16 : Word, ∃ t u, exec (.jsr d16) s = .next t ∧ exec .rts t = .next u ∧ u = { s with ram := u.ram }) ∧
    (∀ vector : Word, ∃ t u, interruptEntry vector s = .ok t ∧ exec .rti t = .next u ∧ u.pc = s.pc ∧ u.sp = s.sp ∧ u.p = s.p) ∧
    (∃ t u, exec .brk s = .next t ∧ exec .rti t = .next u ∧ u.pc = s.pc + 1 ∧ u.sp = s.sp ∧ u.p = s.p)

/-- For every instruction and every state in which every address has an owner, the next state has the devices and RAM that the
listed accesses (the pointer reads of the mode, then the table of events) leave when made one after another from that state.
With the console's map and free windows, for every instruction in a memory mode whose effective address is in the PPU or the I/O
block: the block's history gains exactly one read for a load or compare, one write and no read for a store, a read and then a
write of the byte written for INC, DEC, ASL, LSR, ROL, ROR, and no other device and no RAM changes. That there are no further
accesses is the spec's decision (D12); the event history is the model's (log 1). The fetch's own reads are those of
StepExecutesTheDecodedInstruction. (R83, 40_addressing_and_step.md section 4) -/
def Obligations.DeviceAccessesAreExactlyTheListed : Prop :=
  (∀ (i : Instr) (s : State), s.covered → ∃ t, exec i s = .next t ∧
      t.ppu = (Claims.made (Claims.accesses i s) s).ppu ∧ t.io = (Claims.made (Claims.accesses i s) s).io ∧
      t.cart = (Claims.made (Claims.accesses i s) s).cart ∧ t.ram = (Claims.made (Claims.accesses i s) s).ram) ∧
    (∀ (i : Instr) (f : MemForm) (s : State), s.onConsole → s.ppu.mode = .free → s.io.mode = .free → i.memForm = some f →
      (0x2000 ≤ (s.effective f).toNat → (s.effective f).toNat < 0x4000 → ∃ t, exec i s = .next t ∧
        t.ppu.history = Claims.seen i s (((s.effective f).toNat - 0x2000) % 8) ++ s.ppu.history ∧
        t.io = s.io ∧ t.cart = s.cart ∧ t.ram = s.ram) ∧
      (0x4000 ≤ (s.effective f).toNat → (s.effective f).toNat < 0x4020 → ∃ t, exec i s = .next t ∧
        t.io.history = Claims.seen i s ((s.effective f).toNat - 0x4000) ++ s.io.history ∧
        t.ppu = s.ppu ∧ t.cart = s.cart ∧ t.ram = s.ram))

/-- With the console's map, after BRK the byte at 0100 + (S + 1) has bit 4 set, after an interrupt entry through any vector it has
bit 4 clear; bit 5 is set in both. Where every address has an owner, BRK (brk) leaves what an entry with the return address PC +
1 (the opcode's address plus 2), the status byte with bits 4 and 5 set and vector FFFE leaves: three stores, S - 3, I set, PC
the word at FFFE, A, X, Y and the other flags unchanged; NOP (nop) answers the state as it was. The return address, the vector
and the setting of I are the spec's decisions (D6, D7, log 9). (R310, R27, 48_system.md rules of NOP and BRK, 60_exceptions.md
section 4) -/
def Obligations.BrkEntersAndIsToldApart : Prop :=
  (∀ s : State, s.onConsole →
    (∃ t, exec .brk s = .next t ∧ (t.byteAt (Claims.slot t 1)).getLsbD 4 = true ∧ (t.byteAt (Claims.slot t 1)).getLsbD 5 = true) ∧
    (∀ vector : Word, ∃ t, interruptEntry vector s = .ok t ∧ (t.byteAt (Claims.slot t 1)).getLsbD 4 = false ∧
      (t.byteAt (Claims.slot t 1)).getLsbD 5 = true)) ∧
    ((∀ s : State, exec .nop s = .next s) ∧
    (∀ s : State, s.covered → exec .brk s = .next (Claims.entered s (s.pc + 1) (Claims.statusByte s.p true) 0xFFFE)))

/-- With the console's map, if PC points at a RAM address or a mirror of it: after a bus write of a byte there the next fetch
answers that byte; and after any STA, STX, STY, INC, DEC, ASL, LSR, ROL or ROR in any memory mode whose effective address it is,
the next fetch answers the byte the instruction wrote. The rule is the spec's own derivation (R87). (R85, R349, 20_memory.md
section 6) -/
def Obligations.StoresAreSeenByTheNextFetch : Prop :=
  (∀ (s : State) (a : Word) (v : Byte), s.onConsole → a.toNat < 0x2000 → s.pc.toNat < 0x2000 →
      a.toNat % 0x800 = s.pc.toNat % 0x800 → ∃ t u, busWrite a v s = .ok t ∧ fetch8 t = .ok (v, u)) ∧
    (∀ (s : State) (i : Instr) (f : MemForm), s.onConsole → i.memForm = some f → i.storedAt s = [s.effective f] →
      (s.effective f).toNat < 0x2000 → s.pc.toNat < 0x2000 → (s.effective f).toNat % 0x800 = s.pc.toNat % 0x800 →
      ∃ t u, exec i s = .next t ∧ fetch8 t = .ok (Claims.written i s, u))

/-- If no event is pending and the storage at PC, PC + 1, PC + 2 holds 4C and the two bytes of PC, the step answers the same state.
The convention is the spec's decision (D17). (70_reset_and_hazards.md section 3) -/
def Obligations.JumpToSelfLeavesTheStateUnchanged : Prop :=
  ∀ s : State, s.quiet → s.stored s.pc = some 0x4C → s.stored (s.pc + 1) = some (low s.pc) → s.stored (s.pc + 2) = some (high s.pc) →
    step s = .next s
end

