-- ==== Sys2Proof/Laws/Alu.lean ====
section
/-! SUPPORT. The arithmetic primitives in terms of natural numbers and integers (00_scope.md R5 to R12). -/

namespace Sys2Proof.Machine

theorem word_toNat (h l : Byte) : (word h l).toNat = h.toNat * 256 + l.toNat := by
  have e : (word h l).toNat = h.toNat <<< 8 ||| l.toNat := BitVec.toNat_append h l
  have hl := l.isLt
  rw [e, Nat.shiftLeft_eq, Nat.mul_comm, ← Nat.two_pow_add_eq_or_of_lt hl]

theorem high_toNat (w : Word) : (high w).toNat = w.toNat / 256 := by
  have hw := w.isLt
  simp only [high, BitVec.extractLsb'_toNat, Nat.shiftRight_eq_div_pow]
  omega

theorem low_toNat (w : Word) : (low w).toNat = w.toNat % 256 := by
  simp only [low, BitVec.extractLsb'_toNat, Nat.shiftRight_eq_div_pow]
  omega

@[simp] theorem word_high_low (w : Word) : word (high w) (low w) = w := by
  apply BitVec.eq_of_toNat_eq
  rw [word_toNat, high_toNat, low_toNat]
  omega

@[simp] theorem high_word (h l : Byte) : high (word h l) = h := by
  apply BitVec.eq_of_toNat_eq
  have hl := l.isLt
  rw [high_toNat, word_toNat]
  omega

@[simp] theorem low_word (h l : Byte) : low (word h l) = l := by
  apply BitVec.eq_of_toNat_eq
  have hl := l.isLt
  rw [low_toNat, word_toNat]
  omega

/-- Bit 7 is set from 128 up. -/
theorem sign_eq (v : Byte) : sign v = decide (128 ≤ v.toNat) := by
  have hv : v.toNat < 2 ^ 8 := v.isLt
  rw [sign, bitOf, BitVec.getLsbD, Nat.testBit, Nat.shiftRight_eq_div_pow, Bool.eq_iff_iff]
  simp only [bne_iff_ne, ne_eq, decide_eq_true_eq, Nat.one_and_eq_mod_two]
  omega

theorem signed8_eq (v : Byte) : v.toInt = if 128 ≤ v.toNat then (v.toNat : Int) - 256 else v.toNat := by
  rw [BitVec.toInt_eq_toNat_cond]
  have hv := v.isLt
  split <;> split <;> omega

end Sys2Proof.Machine
end

