-- ==== Sys2Proof/Laws/Memory.lean ====
section
/-! SUPPORT. The laws of a Memory: a read after a write, and that every operation keeps the canonical form. -/

namespace Sys2Proof.Machine

theorem Memory.read_insert_same (m : Memory) (a : Nat) (v : Byte) (h : ∀ c ∈ m, c.1 ≠ a) : (m.insert a v).read a = v := by
  induction m with
  | nil => simp [Memory.insert, Memory.read]
  | cons c rest ih =>
    obtain ⟨k, b⟩ := c
    have hk : k ≠ a := h (k, b) (by simp)
    simp only [Memory.insert]
    split
    · simp [Memory.read]
    · simp only [Memory.read, hk, if_false]
      exact ih fun c hc => h c (by simp [hc])

theorem Memory.read_insert_other (m : Memory) (a b : Nat) (v : Byte) (h : b ≠ a) : (m.insert a v).read b = m.read b := by
  induction m with
  | nil => simp [Memory.insert, Memory.read, h.symm]
  | cons c rest ih =>
    obtain ⟨k, w⟩ := c
    simp only [Memory.insert]
    split
    · simp [Memory.read, h.symm]
    · simp [Memory.read, ih]

theorem Memory.not_mem_erase (m : Memory) (a : Nat) : ∀ c ∈ m.erase a, c.1 ≠ a := by
  intro c hc
  simpa using (List.mem_filter.mp hc).2

theorem Memory.erase_subset (m : Memory) (a : Nat) : ∀ c ∈ m.erase a, c ∈ m := fun _ hc => (List.mem_filter.mp hc).1

theorem Memory.read_of_not_listed (m : Memory) (a : Nat) (h : ∀ c ∈ m, c.1 ≠ a) : m.read a = Memory.unlisted := by
  induction m with
  | nil => rfl
  | cons c rest ih =>
    obtain ⟨k, b⟩ := c
    have hk : k ≠ a := h (k, b) (by simp)
    simp only [Memory.read, hk, if_false]
    exact ih fun c hc => h c (by simp [hc])

theorem Memory.read_erase_other (m : Memory) (a b : Nat) (h : b ≠ a) : (m.erase a).read b = m.read b := by
  induction m with
  | nil => rfl
  | cons c rest ih =>
    obtain ⟨k, w⟩ := c
    simp only [Memory.erase, ne_eq, decide_not] at ih
    by_cases hk : k = a
    · subst hk
      simp [Memory.erase, Memory.read, h.symm, ih]
    · simp [Memory.erase, Memory.read, hk, ih]

/-- A read after a write: the value at the index written, the old byte everywhere else. -/
theorem Memory.read_write (m : Memory) (a b : Nat) (v : Byte) : (m.write a v).read b = if b = a then v else m.read b := by
  unfold Memory.write
  by_cases hb : b = a
  · subst hb
    split
    · rename_i hv
      simpa [hv] using Memory.read_of_not_listed _ _ (Memory.not_mem_erase m b)
    · simpa using Memory.read_insert_same _ _ v (Memory.not_mem_erase m b)
  · simp only [hb, if_false]
    split
    · exact Memory.read_erase_other m a b hb
    · rw [Memory.read_insert_other _ _ _ _ hb, Memory.read_erase_other m a b hb]

theorem Memory.mem_insert (m : Memory) (a : Nat) (v : Byte) (c : Host.Cell) : c ∈ m.insert a v ↔ c = (a, v) ∨ c ∈ m := by
  induction m with
  | nil => simp [Memory.insert]
  | cons d rest ih =>
    obtain ⟨k, b⟩ := d
    simp only [Memory.insert]
    split
    · simp
    · simp [ih, or_left_comm]

theorem Memory.erase_wf (m : Memory) (a : Nat) (h : m.wf) : (m.erase a).wf :=
  ⟨h.1.filter _, fun c hc => h.2 c (Memory.erase_subset m a c hc)⟩

theorem Memory.insert_wf (m : Memory) (a : Nat) (v : Byte) (hv : v ≠ Memory.unlisted) (ha : ∀ c ∈ m, c.1 ≠ a) (h : m.wf) :
    (m.insert a v).wf := by
  refine ⟨?_, fun c hc => ?_⟩
  · induction m with
    | nil => simp [Memory.insert]
    | cons d rest ih =>
      obtain ⟨k, b⟩ := d
      obtain ⟨hs, hn⟩ := h
      have hk : k ≠ a := ha (k, b) (by simp)
      rw [List.pairwise_cons] at hs
      simp only [Memory.insert]
      split
      · rename_i hlt
        refine List.pairwise_cons.mpr ⟨fun c hc => ?_, List.pairwise_cons.mpr hs⟩
        rcases List.mem_cons.mp hc with rfl | hc
        · exact hlt
        · exact Nat.lt_trans hlt (hs.1 c hc)
      · rename_i hnlt
        refine List.pairwise_cons.mpr ⟨fun c hc => ?_, ?_⟩
        · rcases (Memory.mem_insert rest a v c).mp hc with rfl | hc
          · show k < a
            omega
          · exact hs.1 c hc
        · exact ih (fun c hc => ha c (by simp [hc])) ⟨hs.2, fun c hc => hn c (by simp [hc])⟩
  · rcases (Memory.mem_insert m a v c).mp hc with rfl | hc
    · exact hv
    · exact h.2 c hc

/-- A write keeps the canonical form. -/
theorem Memory.write_wf (m : Memory) (a : Nat) (v : Byte) (h : m.wf) : (m.write a v).wf := by
  unfold Memory.write
  split
  · exact Memory.erase_wf m a h
  · exact Memory.insert_wf _ a v ‹_› (Memory.not_mem_erase m a) (Memory.erase_wf m a h)

/-- A write below a bound keeps every index below it. -/
theorem Memory.write_below (m : Memory) (a bound : Nat) (v : Byte) (ha : a < bound) (h : m.below bound) :
    (m.write a v).below bound := by
  intro c hc
  unfold Memory.write at hc
  split at hc
  · exact h c (Memory.erase_subset m a c hc)
  · rcases (Memory.mem_insert _ a v c).mp hc with rfl | hc
    · exact ha
    · exact h c (Memory.erase_subset m a c hc)

/-- Reset memory is in canonical form. -/
theorem State.reset_ram_wf : State.reset.ram.wf := by decide

end Sys2Proof.Machine
end

