-- ==== Sys2Proof/Laws/State.lean ====
section
/-! SUPPORT. One lemma per field per setter, so that no proof unfolds a record update; and what a setter leaves of the bus. -/

namespace Sys2Proof.Machine

/-- States with equal fields are equal. -/
@[ext] theorem State.ext {s t : State} (a : s.a = t.a) (x : s.x = t.x) (y : s.y = t.y) (sp : s.sp = t.sp) (pc : s.pc = t.pc)
    (p : s.p = t.p) (ram : s.ram = t.ram) (ppu : s.ppu = t.ppu) (io : s.io = t.io) (cart : s.cart = t.cart)
    (resetPending : s.resetPending = t.resetPending) (nmiPending : s.nmiPending = t.nmiPending) (irqLine : s.irqLine = t.irqLine)
    (devices : s.devices = t.devices) : s = t := by
  cases s
  cases t
  simp only at *
  subst a x y sp pc p ram ppu io cart resetPending nmiPending irqLine devices
  rfl


@[simp] theorem State.setA_a (s : State) (v : Byte) : (s.setA v).a = v := rfl
@[simp] theorem State.setA_x (s : State) (v : Byte) : (s.setA v).x = s.x := rfl
@[simp] theorem State.setA_y (s : State) (v : Byte) : (s.setA v).y = s.y := rfl
@[simp] theorem State.setA_sp (s : State) (v : Byte) : (s.setA v).sp = s.sp := rfl
@[simp] theorem State.setA_pc (s : State) (v : Byte) : (s.setA v).pc = s.pc := rfl
@[simp] theorem State.setA_p (s : State) (v : Byte) : (s.setA v).p = s.p := rfl
@[simp] theorem State.setA_ram (s : State) (v : Byte) : (s.setA v).ram = s.ram := rfl
@[simp] theorem State.setA_ppu (s : State) (v : Byte) : (s.setA v).ppu = s.ppu := rfl
@[simp] theorem State.setA_io (s : State) (v : Byte) : (s.setA v).io = s.io := rfl
@[simp] theorem State.setA_cart (s : State) (v : Byte) : (s.setA v).cart = s.cart := rfl
@[simp] theorem State.setA_resetPending (s : State) (v : Byte) : (s.setA v).resetPending = s.resetPending := rfl
@[simp] theorem State.setA_nmiPending (s : State) (v : Byte) : (s.setA v).nmiPending = s.nmiPending := rfl
@[simp] theorem State.setA_irqLine (s : State) (v : Byte) : (s.setA v).irqLine = s.irqLine := rfl
@[simp] theorem State.setA_devices (s : State) (v : Byte) : (s.setA v).devices = s.devices := rfl

@[simp] theorem State.setX_a (s : State) (v : Byte) : (s.setX v).a = s.a := rfl
@[simp] theorem State.setX_x (s : State) (v : Byte) : (s.setX v).x = v := rfl
@[simp] theorem State.setX_y (s : State) (v : Byte) : (s.setX v).y = s.y := rfl
@[simp] theorem State.setX_sp (s : State) (v : Byte) : (s.setX v).sp = s.sp := rfl
@[simp] theorem State.setX_pc (s : State) (v : Byte) : (s.setX v).pc = s.pc := rfl
@[simp] theorem State.setX_p (s : State) (v : Byte) : (s.setX v).p = s.p := rfl
@[simp] theorem State.setX_ram (s : State) (v : Byte) : (s.setX v).ram = s.ram := rfl
@[simp] theorem State.setX_ppu (s : State) (v : Byte) : (s.setX v).ppu = s.ppu := rfl
@[simp] theorem State.setX_io (s : State) (v : Byte) : (s.setX v).io = s.io := rfl
@[simp] theorem State.setX_cart (s : State) (v : Byte) : (s.setX v).cart = s.cart := rfl
@[simp] theorem State.setX_resetPending (s : State) (v : Byte) : (s.setX v).resetPending = s.resetPending := rfl
@[simp] theorem State.setX_nmiPending (s : State) (v : Byte) : (s.setX v).nmiPending = s.nmiPending := rfl
@[simp] theorem State.setX_irqLine (s : State) (v : Byte) : (s.setX v).irqLine = s.irqLine := rfl
@[simp] theorem State.setX_devices (s : State) (v : Byte) : (s.setX v).devices = s.devices := rfl

@[simp] theorem State.setY_a (s : State) (v : Byte) : (s.setY v).a = s.a := rfl
@[simp] theorem State.setY_x (s : State) (v : Byte) : (s.setY v).x = s.x := rfl
@[simp] theorem State.setY_y (s : State) (v : Byte) : (s.setY v).y = v := rfl
@[simp] theorem State.setY_sp (s : State) (v : Byte) : (s.setY v).sp = s.sp := rfl
@[simp] theorem State.setY_pc (s : State) (v : Byte) : (s.setY v).pc = s.pc := rfl
@[simp] theorem State.setY_p (s : State) (v : Byte) : (s.setY v).p = s.p := rfl
@[simp] theorem State.setY_ram (s : State) (v : Byte) : (s.setY v).ram = s.ram := rfl
@[simp] theorem State.setY_ppu (s : State) (v : Byte) : (s.setY v).ppu = s.ppu := rfl
@[simp] theorem State.setY_io (s : State) (v : Byte) : (s.setY v).io = s.io := rfl
@[simp] theorem State.setY_cart (s : State) (v : Byte) : (s.setY v).cart = s.cart := rfl
@[simp] theorem State.setY_resetPending (s : State) (v : Byte) : (s.setY v).resetPending = s.resetPending := rfl
@[simp] theorem State.setY_nmiPending (s : State) (v : Byte) : (s.setY v).nmiPending = s.nmiPending := rfl
@[simp] theorem State.setY_irqLine (s : State) (v : Byte) : (s.setY v).irqLine = s.irqLine := rfl
@[simp] theorem State.setY_devices (s : State) (v : Byte) : (s.setY v).devices = s.devices := rfl

@[simp] theorem State.setSp_a (s : State) (v : Byte) : (s.setSp v).a = s.a := rfl
@[simp] theorem State.setSp_x (s : State) (v : Byte) : (s.setSp v).x = s.x := rfl
@[simp] theorem State.setSp_y (s : State) (v : Byte) : (s.setSp v).y = s.y := rfl
@[simp] theorem State.setSp_sp (s : State) (v : Byte) : (s.setSp v).sp = v := rfl
@[simp] theorem State.setSp_pc (s : State) (v : Byte) : (s.setSp v).pc = s.pc := rfl
@[simp] theorem State.setSp_p (s : State) (v : Byte) : (s.setSp v).p = s.p := rfl
@[simp] theorem State.setSp_ram (s : State) (v : Byte) : (s.setSp v).ram = s.ram := rfl
@[simp] theorem State.setSp_ppu (s : State) (v : Byte) : (s.setSp v).ppu = s.ppu := rfl
@[simp] theorem State.setSp_io (s : State) (v : Byte) : (s.setSp v).io = s.io := rfl
@[simp] theorem State.setSp_cart (s : State) (v : Byte) : (s.setSp v).cart = s.cart := rfl
@[simp] theorem State.setSp_resetPending (s : State) (v : Byte) : (s.setSp v).resetPending = s.resetPending := rfl
@[simp] theorem State.setSp_nmiPending (s : State) (v : Byte) : (s.setSp v).nmiPending = s.nmiPending := rfl
@[simp] theorem State.setSp_irqLine (s : State) (v : Byte) : (s.setSp v).irqLine = s.irqLine := rfl
@[simp] theorem State.setSp_devices (s : State) (v : Byte) : (s.setSp v).devices = s.devices := rfl

@[simp] theorem State.setPc_a (s : State) (v : Word) : (s.setPc v).a = s.a := rfl
@[simp] theorem State.setPc_x (s : State) (v : Word) : (s.setPc v).x = s.x := rfl
@[simp] theorem State.setPc_y (s : State) (v : Word) : (s.setPc v).y = s.y := rfl
@[simp] theorem State.setPc_sp (s : State) (v : Word) : (s.setPc v).sp = s.sp := rfl
@[simp] theorem State.setPc_pc (s : State) (v : Word) : (s.setPc v).pc = v := rfl
@[simp] theorem State.setPc_p (s : State) (v : Word) : (s.setPc v).p = s.p := rfl
@[simp] theorem State.setPc_ram (s : State) (v : Word) : (s.setPc v).ram = s.ram := rfl
@[simp] theorem State.setPc_ppu (s : State) (v : Word) : (s.setPc v).ppu = s.ppu := rfl
@[simp] theorem State.setPc_io (s : State) (v : Word) : (s.setPc v).io = s.io := rfl
@[simp] theorem State.setPc_cart (s : State) (v : Word) : (s.setPc v).cart = s.cart := rfl
@[simp] theorem State.setPc_resetPending (s : State) (v : Word) : (s.setPc v).resetPending = s.resetPending := rfl
@[simp] theorem State.setPc_nmiPending (s : State) (v : Word) : (s.setPc v).nmiPending = s.nmiPending := rfl
@[simp] theorem State.setPc_irqLine (s : State) (v : Word) : (s.setPc v).irqLine = s.irqLine := rfl
@[simp] theorem State.setPc_devices (s : State) (v : Word) : (s.setPc v).devices = s.devices := rfl

@[simp] theorem State.setP_a (s : State) (v : Flags) : (s.setP v).a = s.a := rfl
@[simp] theorem State.setP_x (s : State) (v : Flags) : (s.setP v).x = s.x := rfl
@[simp] theorem State.setP_y (s : State) (v : Flags) : (s.setP v).y = s.y := rfl
@[simp] theorem State.setP_sp (s : State) (v : Flags) : (s.setP v).sp = s.sp := rfl
@[simp] theorem State.setP_pc (s : State) (v : Flags) : (s.setP v).pc = s.pc := rfl
@[simp] theorem State.setP_p (s : State) (v : Flags) : (s.setP v).p = v := rfl
@[simp] theorem State.setP_ram (s : State) (v : Flags) : (s.setP v).ram = s.ram := rfl
@[simp] theorem State.setP_ppu (s : State) (v : Flags) : (s.setP v).ppu = s.ppu := rfl
@[simp] theorem State.setP_io (s : State) (v : Flags) : (s.setP v).io = s.io := rfl
@[simp] theorem State.setP_cart (s : State) (v : Flags) : (s.setP v).cart = s.cart := rfl
@[simp] theorem State.setP_resetPending (s : State) (v : Flags) : (s.setP v).resetPending = s.resetPending := rfl
@[simp] theorem State.setP_nmiPending (s : State) (v : Flags) : (s.setP v).nmiPending = s.nmiPending := rfl
@[simp] theorem State.setP_irqLine (s : State) (v : Flags) : (s.setP v).irqLine = s.irqLine := rfl
@[simp] theorem State.setP_devices (s : State) (v : Flags) : (s.setP v).devices = s.devices := rfl

@[simp] theorem State.setRam_a (s : State) (v : Memory) : (s.setRam v).a = s.a := rfl
@[simp] theorem State.setRam_x (s : State) (v : Memory) : (s.setRam v).x = s.x := rfl
@[simp] theorem State.setRam_y (s : State) (v : Memory) : (s.setRam v).y = s.y := rfl
@[simp] theorem State.setRam_sp (s : State) (v : Memory) : (s.setRam v).sp = s.sp := rfl
@[simp] theorem State.setRam_pc (s : State) (v : Memory) : (s.setRam v).pc = s.pc := rfl
@[simp] theorem State.setRam_p (s : State) (v : Memory) : (s.setRam v).p = s.p := rfl
@[simp] theorem State.setRam_ram (s : State) (v : Memory) : (s.setRam v).ram = v := rfl
@[simp] theorem State.setRam_ppu (s : State) (v : Memory) : (s.setRam v).ppu = s.ppu := rfl
@[simp] theorem State.setRam_io (s : State) (v : Memory) : (s.setRam v).io = s.io := rfl
@[simp] theorem State.setRam_cart (s : State) (v : Memory) : (s.setRam v).cart = s.cart := rfl
@[simp] theorem State.setRam_resetPending (s : State) (v : Memory) : (s.setRam v).resetPending = s.resetPending := rfl
@[simp] theorem State.setRam_nmiPending (s : State) (v : Memory) : (s.setRam v).nmiPending = s.nmiPending := rfl
@[simp] theorem State.setRam_irqLine (s : State) (v : Memory) : (s.setRam v).irqLine = s.irqLine := rfl
@[simp] theorem State.setRam_devices (s : State) (v : Memory) : (s.setRam v).devices = s.devices := rfl

@[simp] theorem State.setPpu_a (s : State) (v : Port) : (s.setPpu v).a = s.a := rfl
@[simp] theorem State.setPpu_x (s : State) (v : Port) : (s.setPpu v).x = s.x := rfl
@[simp] theorem State.setPpu_y (s : State) (v : Port) : (s.setPpu v).y = s.y := rfl
@[simp] theorem State.setPpu_sp (s : State) (v : Port) : (s.setPpu v).sp = s.sp := rfl
@[simp] theorem State.setPpu_pc (s : State) (v : Port) : (s.setPpu v).pc = s.pc := rfl
@[simp] theorem State.setPpu_p (s : State) (v : Port) : (s.setPpu v).p = s.p := rfl
@[simp] theorem State.setPpu_ram (s : State) (v : Port) : (s.setPpu v).ram = s.ram := rfl
@[simp] theorem State.setPpu_ppu (s : State) (v : Port) : (s.setPpu v).ppu = v := rfl
@[simp] theorem State.setPpu_io (s : State) (v : Port) : (s.setPpu v).io = s.io := rfl
@[simp] theorem State.setPpu_cart (s : State) (v : Port) : (s.setPpu v).cart = s.cart := rfl
@[simp] theorem State.setPpu_resetPending (s : State) (v : Port) : (s.setPpu v).resetPending = s.resetPending := rfl
@[simp] theorem State.setPpu_nmiPending (s : State) (v : Port) : (s.setPpu v).nmiPending = s.nmiPending := rfl
@[simp] theorem State.setPpu_irqLine (s : State) (v : Port) : (s.setPpu v).irqLine = s.irqLine := rfl
@[simp] theorem State.setPpu_devices (s : State) (v : Port) : (s.setPpu v).devices = s.devices := rfl

@[simp] theorem State.setIo_a (s : State) (v : Port) : (s.setIo v).a = s.a := rfl
@[simp] theorem State.setIo_x (s : State) (v : Port) : (s.setIo v).x = s.x := rfl
@[simp] theorem State.setIo_y (s : State) (v : Port) : (s.setIo v).y = s.y := rfl
@[simp] theorem State.setIo_sp (s : State) (v : Port) : (s.setIo v).sp = s.sp := rfl
@[simp] theorem State.setIo_pc (s : State) (v : Port) : (s.setIo v).pc = s.pc := rfl
@[simp] theorem State.setIo_p (s : State) (v : Port) : (s.setIo v).p = s.p := rfl
@[simp] theorem State.setIo_ram (s : State) (v : Port) : (s.setIo v).ram = s.ram := rfl
@[simp] theorem State.setIo_ppu (s : State) (v : Port) : (s.setIo v).ppu = s.ppu := rfl
@[simp] theorem State.setIo_io (s : State) (v : Port) : (s.setIo v).io = v := rfl
@[simp] theorem State.setIo_cart (s : State) (v : Port) : (s.setIo v).cart = s.cart := rfl
@[simp] theorem State.setIo_resetPending (s : State) (v : Port) : (s.setIo v).resetPending = s.resetPending := rfl
@[simp] theorem State.setIo_nmiPending (s : State) (v : Port) : (s.setIo v).nmiPending = s.nmiPending := rfl
@[simp] theorem State.setIo_irqLine (s : State) (v : Port) : (s.setIo v).irqLine = s.irqLine := rfl
@[simp] theorem State.setIo_devices (s : State) (v : Port) : (s.setIo v).devices = s.devices := rfl

@[simp] theorem State.setCart_a (s : State) (v : Cartridge) : (s.setCart v).a = s.a := rfl
@[simp] theorem State.setCart_x (s : State) (v : Cartridge) : (s.setCart v).x = s.x := rfl
@[simp] theorem State.setCart_y (s : State) (v : Cartridge) : (s.setCart v).y = s.y := rfl
@[simp] theorem State.setCart_sp (s : State) (v : Cartridge) : (s.setCart v).sp = s.sp := rfl
@[simp] theorem State.setCart_pc (s : State) (v : Cartridge) : (s.setCart v).pc = s.pc := rfl
@[simp] theorem State.setCart_p (s : State) (v : Cartridge) : (s.setCart v).p = s.p := rfl
@[simp] theorem State.setCart_ram (s : State) (v : Cartridge) : (s.setCart v).ram = s.ram := rfl
@[simp] theorem State.setCart_ppu (s : State) (v : Cartridge) : (s.setCart v).ppu = s.ppu := rfl
@[simp] theorem State.setCart_io (s : State) (v : Cartridge) : (s.setCart v).io = s.io := rfl
@[simp] theorem State.setCart_cart (s : State) (v : Cartridge) : (s.setCart v).cart = v := rfl
@[simp] theorem State.setCart_resetPending (s : State) (v : Cartridge) : (s.setCart v).resetPending = s.resetPending := rfl
@[simp] theorem State.setCart_nmiPending (s : State) (v : Cartridge) : (s.setCart v).nmiPending = s.nmiPending := rfl
@[simp] theorem State.setCart_irqLine (s : State) (v : Cartridge) : (s.setCart v).irqLine = s.irqLine := rfl
@[simp] theorem State.setCart_devices (s : State) (v : Cartridge) : (s.setCart v).devices = s.devices := rfl

@[simp] theorem State.setResetPending_a (s : State) (v : Bool) : (s.setResetPending v).a = s.a := rfl
@[simp] theorem State.setResetPending_x (s : State) (v : Bool) : (s.setResetPending v).x = s.x := rfl
@[simp] theorem State.setResetPending_y (s : State) (v : Bool) : (s.setResetPending v).y = s.y := rfl
@[simp] theorem State.setResetPending_sp (s : State) (v : Bool) : (s.setResetPending v).sp = s.sp := rfl
@[simp] theorem State.setResetPending_pc (s : State) (v : Bool) : (s.setResetPending v).pc = s.pc := rfl
@[simp] theorem State.setResetPending_p (s : State) (v : Bool) : (s.setResetPending v).p = s.p := rfl
@[simp] theorem State.setResetPending_ram (s : State) (v : Bool) : (s.setResetPending v).ram = s.ram := rfl
@[simp] theorem State.setResetPending_ppu (s : State) (v : Bool) : (s.setResetPending v).ppu = s.ppu := rfl
@[simp] theorem State.setResetPending_io (s : State) (v : Bool) : (s.setResetPending v).io = s.io := rfl
@[simp] theorem State.setResetPending_cart (s : State) (v : Bool) : (s.setResetPending v).cart = s.cart := rfl
@[simp] theorem State.setResetPending_resetPending (s : State) (v : Bool) : (s.setResetPending v).resetPending = v := rfl
@[simp] theorem State.setResetPending_nmiPending (s : State) (v : Bool) : (s.setResetPending v).nmiPending = s.nmiPending := rfl
@[simp] theorem State.setResetPending_irqLine (s : State) (v : Bool) : (s.setResetPending v).irqLine = s.irqLine := rfl
@[simp] theorem State.setResetPending_devices (s : State) (v : Bool) : (s.setResetPending v).devices = s.devices := rfl

@[simp] theorem State.setNmiPending_a (s : State) (v : Bool) : (s.setNmiPending v).a = s.a := rfl
@[simp] theorem State.setNmiPending_x (s : State) (v : Bool) : (s.setNmiPending v).x = s.x := rfl
@[simp] theorem State.setNmiPending_y (s : State) (v : Bool) : (s.setNmiPending v).y = s.y := rfl
@[simp] theorem State.setNmiPending_sp (s : State) (v : Bool) : (s.setNmiPending v).sp = s.sp := rfl
@[simp] theorem State.setNmiPending_pc (s : State) (v : Bool) : (s.setNmiPending v).pc = s.pc := rfl
@[simp] theorem State.setNmiPending_p (s : State) (v : Bool) : (s.setNmiPending v).p = s.p := rfl
@[simp] theorem State.setNmiPending_ram (s : State) (v : Bool) : (s.setNmiPending v).ram = s.ram := rfl
@[simp] theorem State.setNmiPending_ppu (s : State) (v : Bool) : (s.setNmiPending v).ppu = s.ppu := rfl
@[simp] theorem State.setNmiPending_io (s : State) (v : Bool) : (s.setNmiPending v).io = s.io := rfl
@[simp] theorem State.setNmiPending_cart (s : State) (v : Bool) : (s.setNmiPending v).cart = s.cart := rfl
@[simp] theorem State.setNmiPending_resetPending (s : State) (v : Bool) : (s.setNmiPending v).resetPending = s.resetPending := rfl
@[simp] theorem State.setNmiPending_nmiPending (s : State) (v : Bool) : (s.setNmiPending v).nmiPending = v := rfl
@[simp] theorem State.setNmiPending_irqLine (s : State) (v : Bool) : (s.setNmiPending v).irqLine = s.irqLine := rfl
@[simp] theorem State.setNmiPending_devices (s : State) (v : Bool) : (s.setNmiPending v).devices = s.devices := rfl

@[simp] theorem State.setIrqLine_a (s : State) (v : Bool) : (s.setIrqLine v).a = s.a := rfl
@[simp] theorem State.setIrqLine_x (s : State) (v : Bool) : (s.setIrqLine v).x = s.x := rfl
@[simp] theorem State.setIrqLine_y (s : State) (v : Bool) : (s.setIrqLine v).y = s.y := rfl
@[simp] theorem State.setIrqLine_sp (s : State) (v : Bool) : (s.setIrqLine v).sp = s.sp := rfl
@[simp] theorem State.setIrqLine_pc (s : State) (v : Bool) : (s.setIrqLine v).pc = s.pc := rfl
@[simp] theorem State.setIrqLine_p (s : State) (v : Bool) : (s.setIrqLine v).p = s.p := rfl
@[simp] theorem State.setIrqLine_ram (s : State) (v : Bool) : (s.setIrqLine v).ram = s.ram := rfl
@[simp] theorem State.setIrqLine_ppu (s : State) (v : Bool) : (s.setIrqLine v).ppu = s.ppu := rfl
@[simp] theorem State.setIrqLine_io (s : State) (v : Bool) : (s.setIrqLine v).io = s.io := rfl
@[simp] theorem State.setIrqLine_cart (s : State) (v : Bool) : (s.setIrqLine v).cart = s.cart := rfl
@[simp] theorem State.setIrqLine_resetPending (s : State) (v : Bool) : (s.setIrqLine v).resetPending = s.resetPending := rfl
@[simp] theorem State.setIrqLine_nmiPending (s : State) (v : Bool) : (s.setIrqLine v).nmiPending = s.nmiPending := rfl
@[simp] theorem State.setIrqLine_irqLine (s : State) (v : Bool) : (s.setIrqLine v).irqLine = v := rfl
@[simp] theorem State.setIrqLine_devices (s : State) (v : Bool) : (s.setIrqLine v).devices = s.devices := rfl

@[simp] theorem State.setA_owner (s : State) (v : Byte) (a : Word) : (s.setA v).owner a = s.owner a := rfl
@[simp] theorem State.setA_claimed (s : State) (v : Byte) (a : Word) : (s.setA v).claimed a = s.claimed a := rfl
@[simp] theorem State.setX_owner (s : State) (v : Byte) (a : Word) : (s.setX v).owner a = s.owner a := rfl
@[simp] theorem State.setX_claimed (s : State) (v : Byte) (a : Word) : (s.setX v).claimed a = s.claimed a := rfl
@[simp] theorem State.setY_owner (s : State) (v : Byte) (a : Word) : (s.setY v).owner a = s.owner a := rfl
@[simp] theorem State.setY_claimed (s : State) (v : Byte) (a : Word) : (s.setY v).claimed a = s.claimed a := rfl
@[simp] theorem State.setSp_owner (s : State) (v : Byte) (a : Word) : (s.setSp v).owner a = s.owner a := rfl
@[simp] theorem State.setSp_claimed (s : State) (v : Byte) (a : Word) : (s.setSp v).claimed a = s.claimed a := rfl
@[simp] theorem State.setPc_owner (s : State) (v : Word) (a : Word) : (s.setPc v).owner a = s.owner a := rfl
@[simp] theorem State.setPc_claimed (s : State) (v : Word) (a : Word) : (s.setPc v).claimed a = s.claimed a := rfl
@[simp] theorem State.setP_owner (s : State) (v : Flags) (a : Word) : (s.setP v).owner a = s.owner a := rfl
@[simp] theorem State.setP_claimed (s : State) (v : Flags) (a : Word) : (s.setP v).claimed a = s.claimed a := rfl
@[simp] theorem State.setRam_owner (s : State) (v : Memory) (a : Word) : (s.setRam v).owner a = s.owner a := rfl
@[simp] theorem State.setRam_claimed (s : State) (v : Memory) (a : Word) : (s.setRam v).claimed a = s.claimed a := rfl
@[simp] theorem State.setPpu_owner (s : State) (v : Port) (a : Word) : (s.setPpu v).owner a = s.owner a := rfl
@[simp] theorem State.setPpu_claimed (s : State) (v : Port) (a : Word) : (s.setPpu v).claimed a = s.claimed a := rfl
@[simp] theorem State.setIo_owner (s : State) (v : Port) (a : Word) : (s.setIo v).owner a = s.owner a := rfl
@[simp] theorem State.setIo_claimed (s : State) (v : Port) (a : Word) : (s.setIo v).claimed a = s.claimed a := rfl
@[simp] theorem State.setCart_owner (s : State) (v : Cartridge) (a : Word) : (s.setCart v).owner a = s.owner a := rfl
@[simp] theorem State.setCart_claimed (s : State) (v : Cartridge) (a : Word) : (s.setCart v).claimed a = s.claimed a := rfl
@[simp] theorem State.setResetPending_owner (s : State) (v : Bool) (a : Word) : (s.setResetPending v).owner a = s.owner a := rfl
@[simp] theorem State.setResetPending_claimed (s : State) (v : Bool) (a : Word) : (s.setResetPending v).claimed a = s.claimed a := rfl
@[simp] theorem State.setNmiPending_owner (s : State) (v : Bool) (a : Word) : (s.setNmiPending v).owner a = s.owner a := rfl
@[simp] theorem State.setNmiPending_claimed (s : State) (v : Bool) (a : Word) : (s.setNmiPending v).claimed a = s.claimed a := rfl
@[simp] theorem State.setIrqLine_owner (s : State) (v : Bool) (a : Word) : (s.setIrqLine v).owner a = s.owner a := rfl
@[simp] theorem State.setIrqLine_claimed (s : State) (v : Bool) (a : Word) : (s.setIrqLine v).claimed a = s.claimed a := rfl

/-! The registers and the pending bits are behind no address. -/

@[simp] theorem State.setA_byteAt (s : State) (v : Byte) (a : Word) : (s.setA v).byteAt a = s.byteAt a := rfl
theorem State.setA_touch (s : State) (v : Byte) (a : Word) : (s.setA v).touch a = (s.touch a).setA v := by
  unfold State.touch Slot.afterRead
  simp only [State.setA_owner]
  split
  · split <;> (try split) <;> rfl
  · rfl

theorem State.setA_store (s : State) (v : Byte) (a : Word) (b : Byte) : (s.setA v).store a b = (s.store a b).setA v := by
  unfold State.store Slot.afterWrite
  simp only [State.setA_owner]
  split
  · split <;> (try split) <;> rfl
  · rfl

@[simp] theorem State.setX_byteAt (s : State) (v : Byte) (a : Word) : (s.setX v).byteAt a = s.byteAt a := rfl
theorem State.setX_touch (s : State) (v : Byte) (a : Word) : (s.setX v).touch a = (s.touch a).setX v := by
  unfold State.touch Slot.afterRead
  simp only [State.setX_owner]
  split
  · split <;> (try split) <;> rfl
  · rfl

theorem State.setX_store (s : State) (v : Byte) (a : Word) (b : Byte) : (s.setX v).store a b = (s.store a b).setX v := by
  unfold State.store Slot.afterWrite
  simp only [State.setX_owner]
  split
  · split <;> (try split) <;> rfl
  · rfl

@[simp] theorem State.setY_byteAt (s : State) (v : Byte) (a : Word) : (s.setY v).byteAt a = s.byteAt a := rfl
theorem State.setY_touch (s : State) (v : Byte) (a : Word) : (s.setY v).touch a = (s.touch a).setY v := by
  unfold State.touch Slot.afterRead
  simp only [State.setY_owner]
  split
  · split <;> (try split) <;> rfl
  · rfl

theorem State.setY_store (s : State) (v : Byte) (a : Word) (b : Byte) : (s.setY v).store a b = (s.store a b).setY v := by
  unfold State.store Slot.afterWrite
  simp only [State.setY_owner]
  split
  · split <;> (try split) <;> rfl
  · rfl

@[simp] theorem State.setSp_byteAt (s : State) (v : Byte) (a : Word) : (s.setSp v).byteAt a = s.byteAt a := rfl
theorem State.setSp_touch (s : State) (v : Byte) (a : Word) : (s.setSp v).touch a = (s.touch a).setSp v := by
  unfold State.touch Slot.afterRead
  simp only [State.setSp_owner]
  split
  · split <;> (try split) <;> rfl
  · rfl

theorem State.setSp_store (s : State) (v : Byte) (a : Word) (b : Byte) : (s.setSp v).store a b = (s.store a b).setSp v := by
  unfold State.store Slot.afterWrite
  simp only [State.setSp_owner]
  split
  · split <;> (try split) <;> rfl
  · rfl

@[simp] theorem State.setPc_byteAt (s : State) (v : Word) (a : Word) : (s.setPc v).byteAt a = s.byteAt a := rfl
theorem State.setPc_touch (s : State) (v : Word) (a : Word) : (s.setPc v).touch a = (s.touch a).setPc v := by
  unfold State.touch Slot.afterRead
  simp only [State.setPc_owner]
  split
  · split <;> (try split) <;> rfl
  · rfl

theorem State.setPc_store (s : State) (v : Word) (a : Word) (b : Byte) : (s.setPc v).store a b = (s.store a b).setPc v := by
  unfold State.store Slot.afterWrite
  simp only [State.setPc_owner]
  split
  · split <;> (try split) <;> rfl
  · rfl

@[simp] theorem State.setP_byteAt (s : State) (v : Flags) (a : Word) : (s.setP v).byteAt a = s.byteAt a := rfl
theorem State.setP_touch (s : State) (v : Flags) (a : Word) : (s.setP v).touch a = (s.touch a).setP v := by
  unfold State.touch Slot.afterRead
  simp only [State.setP_owner]
  split
  · split <;> (try split) <;> rfl
  · rfl

theorem State.setP_store (s : State) (v : Flags) (a : Word) (b : Byte) : (s.setP v).store a b = (s.store a b).setP v := by
  unfold State.store Slot.afterWrite
  simp only [State.setP_owner]
  split
  · split <;> (try split) <;> rfl
  · rfl

@[simp] theorem State.setResetPending_byteAt (s : State) (v : Bool) (a : Word) : (s.setResetPending v).byteAt a = s.byteAt a := rfl
theorem State.setResetPending_touch (s : State) (v : Bool) (a : Word) : (s.setResetPending v).touch a = (s.touch a).setResetPending v := by
  unfold State.touch Slot.afterRead
  simp only [State.setResetPending_owner]
  split
  · split <;> (try split) <;> rfl
  · rfl

theorem State.setResetPending_store (s : State) (v : Bool) (a : Word) (b : Byte) : (s.setResetPending v).store a b = (s.store a b).setResetPending v := by
  unfold State.store Slot.afterWrite
  simp only [State.setResetPending_owner]
  split
  · split <;> (try split) <;> rfl
  · rfl

@[simp] theorem State.setNmiPending_byteAt (s : State) (v : Bool) (a : Word) : (s.setNmiPending v).byteAt a = s.byteAt a := rfl
theorem State.setNmiPending_touch (s : State) (v : Bool) (a : Word) : (s.setNmiPending v).touch a = (s.touch a).setNmiPending v := by
  unfold State.touch Slot.afterRead
  simp only [State.setNmiPending_owner]
  split
  · split <;> (try split) <;> rfl
  · rfl

theorem State.setNmiPending_store (s : State) (v : Bool) (a : Word) (b : Byte) : (s.setNmiPending v).store a b = (s.store a b).setNmiPending v := by
  unfold State.store Slot.afterWrite
  simp only [State.setNmiPending_owner]
  split
  · split <;> (try split) <;> rfl
  · rfl

@[simp] theorem State.setIrqLine_byteAt (s : State) (v : Bool) (a : Word) : (s.setIrqLine v).byteAt a = s.byteAt a := rfl
theorem State.setIrqLine_touch (s : State) (v : Bool) (a : Word) : (s.setIrqLine v).touch a = (s.touch a).setIrqLine v := by
  unfold State.touch Slot.afterRead
  simp only [State.setIrqLine_owner]
  split
  · split <;> (try split) <;> rfl
  · rfl

theorem State.setIrqLine_store (s : State) (v : Bool) (a : Word) (b : Byte) : (s.setIrqLine v).store a b = (s.store a b).setIrqLine v := by
  unfold State.store Slot.afterWrite
  simp only [State.setIrqLine_owner]
  split
  · split <;> (try split) <;> rfl
  · rfl

end Sys2Proof.Machine
end

