-- ==== Sys2Proof/Laws/Bus.lean ====
section
/-! SUPPORT. The bus: what a read and a write leave of the state, and when an access completes (20_memory.md R60 to R65, R83). -/

namespace Sys2Proof.Machine

/-! ## A read changes only device windows -/

@[simp] theorem State.touch_a (s : State) (a : Word) : (s.touch a).a = s.a := by
  unfold State.touch Slot.afterRead
  split
  · split <;> (try split) <;> rfl
  · rfl

@[simp] theorem State.touch_x (s : State) (a : Word) : (s.touch a).x = s.x := by
  unfold State.touch Slot.afterRead
  split
  · split <;> (try split) <;> rfl
  · rfl

@[simp] theorem State.touch_y (s : State) (a : Word) : (s.touch a).y = s.y := by
  unfold State.touch Slot.afterRead
  split
  · split <;> (try split) <;> rfl
  · rfl

@[simp] theorem State.touch_sp (s : State) (a : Word) : (s.touch a).sp = s.sp := by
  unfold State.touch Slot.afterRead
  split
  · split <;> (try split) <;> rfl
  · rfl

@[simp] theorem State.touch_pc (s : State) (a : Word) : (s.touch a).pc = s.pc := by
  unfold State.touch Slot.afterRead
  split
  · split <;> (try split) <;> rfl
  · rfl

@[simp] theorem State.touch_p (s : State) (a : Word) : (s.touch a).p = s.p := by
  unfold State.touch Slot.afterRead
  split
  · split <;> (try split) <;> rfl
  · rfl

@[simp] theorem State.touch_ram (s : State) (a : Word) : (s.touch a).ram = s.ram := by
  unfold State.touch Slot.afterRead
  split
  · split <;> (try split) <;> rfl
  · rfl

@[simp] theorem State.touch_resetPending (s : State) (a : Word) : (s.touch a).resetPending = s.resetPending := by
  unfold State.touch Slot.afterRead
  split
  · split <;> (try split) <;> rfl
  · rfl

@[simp] theorem State.touch_nmiPending (s : State) (a : Word) : (s.touch a).nmiPending = s.nmiPending := by
  unfold State.touch Slot.afterRead
  split
  · split <;> (try split) <;> rfl
  · rfl

@[simp] theorem State.touch_irqLine (s : State) (a : Word) : (s.touch a).irqLine = s.irqLine := by
  unfold State.touch Slot.afterRead
  split
  · split <;> (try split) <;> rfl
  · rfl

@[simp] theorem State.touch_devices (s : State) (a : Word) : (s.touch a).devices = s.devices := by
  unfold State.touch Slot.afterRead
  split
  · split <;> (try split) <;> rfl
  · rfl

@[simp] theorem State.touch_cart_image (s : State) (a : Word) : (s.touch a).cart.image = s.cart.image := by
  unfold State.touch Slot.afterRead
  split
  · split <;> (try split) <;> rfl
  · rfl

/-! ## A write changes only RAM and device windows -/

@[simp] theorem State.store_a (s : State) (a : Word) (v : Byte) : (s.store a v).a = s.a := by
  unfold State.store Slot.afterWrite
  split
  · split <;> (try split) <;> rfl
  · rfl

@[simp] theorem State.store_x (s : State) (a : Word) (v : Byte) : (s.store a v).x = s.x := by
  unfold State.store Slot.afterWrite
  split
  · split <;> (try split) <;> rfl
  · rfl

@[simp] theorem State.store_y (s : State) (a : Word) (v : Byte) : (s.store a v).y = s.y := by
  unfold State.store Slot.afterWrite
  split
  · split <;> (try split) <;> rfl
  · rfl

@[simp] theorem State.store_sp (s : State) (a : Word) (v : Byte) : (s.store a v).sp = s.sp := by
  unfold State.store Slot.afterWrite
  split
  · split <;> (try split) <;> rfl
  · rfl

@[simp] theorem State.store_pc (s : State) (a : Word) (v : Byte) : (s.store a v).pc = s.pc := by
  unfold State.store Slot.afterWrite
  split
  · split <;> (try split) <;> rfl
  · rfl

@[simp] theorem State.store_p (s : State) (a : Word) (v : Byte) : (s.store a v).p = s.p := by
  unfold State.store Slot.afterWrite
  split
  · split <;> (try split) <;> rfl
  · rfl

@[simp] theorem State.store_resetPending (s : State) (a : Word) (v : Byte) : (s.store a v).resetPending = s.resetPending := by
  unfold State.store Slot.afterWrite
  split
  · split <;> (try split) <;> rfl
  · rfl

@[simp] theorem State.store_nmiPending (s : State) (a : Word) (v : Byte) : (s.store a v).nmiPending = s.nmiPending := by
  unfold State.store Slot.afterWrite
  split
  · split <;> (try split) <;> rfl
  · rfl

@[simp] theorem State.store_irqLine (s : State) (a : Word) (v : Byte) : (s.store a v).irqLine = s.irqLine := by
  unfold State.store Slot.afterWrite
  split
  · split <;> (try split) <;> rfl
  · rfl

@[simp] theorem State.store_devices (s : State) (a : Word) (v : Byte) : (s.store a v).devices = s.devices := by
  unfold State.store Slot.afterWrite
  split
  · split <;> (try split) <;> rfl
  · rfl

@[simp] theorem State.store_cart_image (s : State) (a : Word) (v : Byte) : (s.store a v).cart.image = s.cart.image := by
  unfold State.store Slot.afterWrite
  split
  · split <;> (try split) <;> rfl
  · rfl

/-! ## Ownership depends on the device list alone -/

theorem State.owner_congr {s t : State} (h : t.devices = s.devices) (a : Word) : t.owner a = s.owner a := by
  unfold State.owner
  rw [h]

theorem State.claimed_congr {s t : State} (h : t.devices = s.devices) (a : Word) : t.claimed a = s.claimed a := by
  unfold State.claimed
  rw [State.owner_congr h]

theorem State.covered_congr {s t : State} (h : t.devices = s.devices) (hs : s.covered) : t.covered := fun a => by
  rw [State.claimed_congr h]
  exact hs a

@[simp] theorem State.touch_owner (s : State) (a b : Word) : (s.touch a).owner b = s.owner b := State.owner_congr (by simp) b
@[simp] theorem State.store_owner (s : State) (a b : Word) (v : Byte) : (s.store a v).owner b = s.owner b :=
  State.owner_congr (by simp) b
@[simp] theorem State.touch_claimed (s : State) (a b : Word) : (s.touch a).claimed b = s.claimed b := State.claimed_congr (by simp) b
@[simp] theorem State.store_claimed (s : State) (a b : Word) (v : Byte) : (s.store a v).claimed b = s.claimed b :=
  State.claimed_congr (by simp) b

/-- The console's map leaves no address without an owner (R65, R72). -/
theorem State.covered_of_onConsole {s : State} (h : s.onConsole) : s.covered := by
  intro a
  have ha := a.isLt
  unfold State.claimed State.owner
  rw [h]
  simp only [consoleDevices, List.find?_isSome, List.mem_cons, List.not_mem_nil, or_false, exists_eq_or_imp, exists_eq_left,
    Slot.contains, Bool.and_eq_true, decide_eq_true_eq]
  omega

theorem State.reset_covered : State.reset.covered := State.covered_of_onConsole rfl

/-! ## When an access completes, and what it answers -/

theorem busRead_of_claimed {s : State} {a : Word} (h : s.claimed a = true) : busRead a s = .ok (s.byteAt a, s.touch a) := by
  simp [busRead, h]

theorem busWrite_of_claimed {s : State} {a : Word} (v : Byte) (h : s.claimed a = true) : busWrite a v s = .ok (s.store a v) := by
  simp [busWrite, h]

/-- Everything a bus read can do. -/
theorem busRead_cases (a : Word) (s : State) :
    (s.claimed a = true ∧ busRead a s = .ok (s.byteAt a, s.touch a)) ∨
      (s.claimed a = false ∧ busRead a s = .error (.unmappedAccess a)) := by
  cases h : s.claimed a <;> simp [busRead, h]

/-- Everything a bus write can do. -/
theorem busWrite_cases (a : Word) (v : Byte) (s : State) :
    (s.claimed a = true ∧ busWrite a v s = .ok (s.store a v)) ∨
      (s.claimed a = false ∧ busWrite a v s = .error (.unmappedAccess a)) := by
  cases h : s.claimed a <;> simp [busWrite, h]

theorem busRead_ok {a : Word} {s t : State} {b : Byte} (h : busRead a s = .ok (b, t)) : b = s.byteAt a ∧ t = s.touch a := by
  rcases busRead_cases a s with ⟨-, h'⟩ | ⟨-, h'⟩ <;> simp_all

theorem busWrite_ok {a : Word} {v : Byte} {s t : State} (h : busWrite a v s = .ok t) : t = s.store a v := by
  rcases busWrite_cases a v s with ⟨-, h'⟩ | ⟨-, h'⟩ <;> simp_all

theorem busRead_error {a : Word} {s : State} {f : Fault} (h : busRead a s = .error f) :
    f = .unmappedAccess a ∧ s.claimed a = false := by
  rcases busRead_cases a s with ⟨-, h'⟩ | ⟨hc, h'⟩ <;> simp_all

theorem busWrite_error {a : Word} {v : Byte} {s : State} {f : Fault} (h : busWrite a v s = .error f) :
    f = .unmappedAccess a ∧ s.claimed a = false := by
  rcases busWrite_cases a v s with ⟨-, h'⟩ | ⟨hc, h'⟩ <;> simp_all

/-! ## Words -/

theorem secondAddr_eq (a : Word) : secondAddr a = a + 1 := rfl

theorem readWord_of_covered {s : State} (h : s.covered) (a : Word) : readWord a s = .ok (s.wordAt a, s.touchWord a) := by
  have h1 := busRead_of_claimed (h a)
  have h2 := busRead_of_claimed (s := s.touch a) (a := secondAddr a) (by simpa using h (secondAddr a))
  simp only [readWord, h1, bind, Except.bind, h2]
  rfl

theorem readWord_ok {a : Word} {s t : State} {w : Word} (h : readWord a s = .ok (w, t)) : w = s.wordAt a ∧ t = s.touchWord a := by
  rcases busRead_cases a s with ⟨-, h1⟩ | ⟨-, h1⟩
  · rcases busRead_cases (secondAddr a) (s.touch a) with ⟨-, h2⟩ | ⟨-, h2⟩
    · simp only [readWord, h1, bind, Except.bind, h2, pure, Except.pure, Except.ok.injEq, Prod.mk.injEq] at h
      exact ⟨h.1.symm, h.2.symm⟩
    · simp [readWord, h1, bind, Except.bind, h2] at h
  · simp [readWord, h1, bind, Except.bind] at h

theorem readWord_error {a : Word} {s : State} {f : Fault} (h : readWord a s = .error f) :
    ∃ b, f = .unmappedAccess b ∧ s.claimed b = false := by
  rcases busRead_cases a s with ⟨-, h1⟩ | ⟨hc, h1⟩
  · rcases busRead_cases (secondAddr a) (s.touch a) with ⟨-, h2⟩ | ⟨hc, h2⟩
    · simp [readWord, h1, bind, Except.bind, h2, pure, Except.pure] at h
    · simp only [readWord, h1, bind, Except.bind, h2, Except.error.injEq] at h
      exact ⟨_, h.symm, by simpa using hc⟩
  · simp only [readWord, h1, bind, Except.bind, Except.error.injEq] at h
    exact ⟨a, h.symm, hc⟩

@[simp] theorem State.touchWord_a (s : State) (a : Word) : (s.touchWord a).a = s.a := by simp [State.touchWord]
@[simp] theorem State.touchWord_x (s : State) (a : Word) : (s.touchWord a).x = s.x := by simp [State.touchWord]
@[simp] theorem State.touchWord_y (s : State) (a : Word) : (s.touchWord a).y = s.y := by simp [State.touchWord]
@[simp] theorem State.touchWord_sp (s : State) (a : Word) : (s.touchWord a).sp = s.sp := by simp [State.touchWord]
@[simp] theorem State.touchWord_pc (s : State) (a : Word) : (s.touchWord a).pc = s.pc := by simp [State.touchWord]
@[simp] theorem State.touchWord_p (s : State) (a : Word) : (s.touchWord a).p = s.p := by simp [State.touchWord]
@[simp] theorem State.touchWord_ram (s : State) (a : Word) : (s.touchWord a).ram = s.ram := by simp [State.touchWord]
@[simp] theorem State.touchWord_resetPending (s : State) (a : Word) : (s.touchWord a).resetPending = s.resetPending := by simp [State.touchWord]
@[simp] theorem State.touchWord_nmiPending (s : State) (a : Word) : (s.touchWord a).nmiPending = s.nmiPending := by simp [State.touchWord]
@[simp] theorem State.touchWord_irqLine (s : State) (a : Word) : (s.touchWord a).irqLine = s.irqLine := by simp [State.touchWord]
@[simp] theorem State.touchWord_devices (s : State) (a : Word) : (s.touchWord a).devices = s.devices := by simp [State.touchWord]
@[simp] theorem State.touchWord_cart_image (s : State) (a : Word) : (s.touchWord a).cart.image = s.cart.image := by simp [State.touchWord]

/-! ## RAM and ROM through the bus -/

/-- A write to RAM sets one cell; the byte of every other cell stays (R71). -/
theorem State.store_of_ram {s : State} {a : Word} {d : Slot} (v : Byte) (ho : s.owner a = some d) (hk : d.kind = .ram) :
    s.store a v = s.setRam (s.ram.write (d.index a) v) := by
  simp [State.store, ho, Slot.afterWrite, hk]

/-- A read of RAM has no side effect (R83). -/
theorem State.touch_of_ram {s : State} {a : Word} {d : Slot} (ho : s.owner a = some d) (hk : d.kind = .ram) : s.touch a = s := by
  simp [State.touch, ho, Slot.afterRead, hk]

theorem State.byteAt_of_ram {s : State} {a : Word} {d : Slot} (ho : s.owner a = some d) (hk : d.kind = .ram) :
    s.byteAt a = s.ram.read (d.index a) := by
  simp [State.byteAt, ho, Slot.byteAt, hk]

/-- The cells of RAM after a write: the cell behind the address if its owner is RAM, and no other. -/
theorem State.store_ram_read (s : State) (a : Word) (v : Byte) (k : Nat) :
    (s.store a v).ram.read k = if s.cellOf a = some k then v else s.ram.read k := by
  unfold State.store State.cellOf
  cases ho : s.owner a with
  | none => simp
  | some d =>
    obtain ⟨kind, base, stop, capacity⟩ := d
    cases kind with
    | ram => simp [Slot.afterWrite, Memory.read_write, eq_comm]
    | ppu => simp [Slot.afterWrite]
    | io => simp [Slot.afterWrite]
    | cartridge =>
      simp only [Slot.afterWrite]
      split <;> simp

theorem State.cellOf_congr {s t : State} (h : t.devices = s.devices) (a : Word) : t.cellOf a = s.cellOf a := by
  unfold State.cellOf
  rw [State.owner_congr h]

end Sys2Proof.Machine
end

