-- ==== Sys2Proof/Laws/Ops.lean ====
section
/-! SUPPORT. The stack, entry through a vector, the return and the reset sequence: what each does where every byte is claimed, what
it answered when it answered, and that it faults only on an unclaimed address (10_state.md R40 to R45, 60_exceptions.md R309). -/

namespace Sys2Proof.Machine

/-! ## Fields -/

@[simp] theorem State.push_a (s : State) (b : Byte) : (s.push b).a = s.a := by simp [State.push]
@[simp] theorem State.push_x (s : State) (b : Byte) : (s.push b).x = s.x := by simp [State.push]
@[simp] theorem State.push_y (s : State) (b : Byte) : (s.push b).y = s.y := by simp [State.push]
@[simp] theorem State.push_pc (s : State) (b : Byte) : (s.push b).pc = s.pc := by simp [State.push]
@[simp] theorem State.push_p (s : State) (b : Byte) : (s.push b).p = s.p := by simp [State.push]
@[simp] theorem State.push_resetPending (s : State) (b : Byte) : (s.push b).resetPending = s.resetPending := by simp [State.push]
@[simp] theorem State.push_nmiPending (s : State) (b : Byte) : (s.push b).nmiPending = s.nmiPending := by simp [State.push]
@[simp] theorem State.push_irqLine (s : State) (b : Byte) : (s.push b).irqLine = s.irqLine := by simp [State.push]
@[simp] theorem State.push_devices (s : State) (b : Byte) : (s.push b).devices = s.devices := by simp [State.push]
@[simp] theorem State.push_cart_image (s : State) (b : Byte) : (s.push b).cart.image = s.cart.image := by simp [State.push]
@[simp] theorem State.push_sp (s : State) (b : Byte) : (s.push b).sp = s.sp - 1 := by simp [State.push]
@[simp] theorem State.pop_a (s : State) : (s.pop).a = s.a := by simp [State.pop]
@[simp] theorem State.pop_x (s : State) : (s.pop).x = s.x := by simp [State.pop]
@[simp] theorem State.pop_y (s : State) : (s.pop).y = s.y := by simp [State.pop]
@[simp] theorem State.pop_pc (s : State) : (s.pop).pc = s.pc := by simp [State.pop]
@[simp] theorem State.pop_p (s : State) : (s.pop).p = s.p := by simp [State.pop]
@[simp] theorem State.pop_ram (s : State) : (s.pop).ram = s.ram := by simp [State.pop]
@[simp] theorem State.pop_resetPending (s : State) : (s.pop).resetPending = s.resetPending := by simp [State.pop]
@[simp] theorem State.pop_nmiPending (s : State) : (s.pop).nmiPending = s.nmiPending := by simp [State.pop]
@[simp] theorem State.pop_irqLine (s : State) : (s.pop).irqLine = s.irqLine := by simp [State.pop]
@[simp] theorem State.pop_devices (s : State) : (s.pop).devices = s.devices := by simp [State.pop]
@[simp] theorem State.pop_cart_image (s : State) : (s.pop).cart.image = s.cart.image := by simp [State.pop]
@[simp] theorem State.pop_sp (s : State) : s.pop.sp = s.sp + 1 := by simp [State.pop]
@[simp] theorem State.pushWord_a (s : State) (w : Word) : (s.pushWord w).a = s.a := by simp [State.pushWord]
@[simp] theorem State.pushWord_x (s : State) (w : Word) : (s.pushWord w).x = s.x := by simp [State.pushWord]
@[simp] theorem State.pushWord_y (s : State) (w : Word) : (s.pushWord w).y = s.y := by simp [State.pushWord]
@[simp] theorem State.pushWord_pc (s : State) (w : Word) : (s.pushWord w).pc = s.pc := by simp [State.pushWord]
@[simp] theorem State.pushWord_p (s : State) (w : Word) : (s.pushWord w).p = s.p := by simp [State.pushWord]
@[simp] theorem State.pushWord_resetPending (s : State) (w : Word) : (s.pushWord w).resetPending = s.resetPending := by simp [State.pushWord]
@[simp] theorem State.pushWord_nmiPending (s : State) (w : Word) : (s.pushWord w).nmiPending = s.nmiPending := by simp [State.pushWord]
@[simp] theorem State.pushWord_irqLine (s : State) (w : Word) : (s.pushWord w).irqLine = s.irqLine := by simp [State.pushWord]
@[simp] theorem State.pushWord_devices (s : State) (w : Word) : (s.pushWord w).devices = s.devices := by simp [State.pushWord]
@[simp] theorem State.pushWord_cart_image (s : State) (w : Word) : (s.pushWord w).cart.image = s.cart.image := by simp [State.pushWord]
@[simp] theorem State.pushWord_sp (s : State) (w : Word) : (s.pushWord w).sp = s.sp - 1 - 1 := by simp [State.pushWord]
@[simp] theorem State.popWord_a (s : State) : (s.popWord).a = s.a := by simp [State.popWord]
@[simp] theorem State.popWord_x (s : State) : (s.popWord).x = s.x := by simp [State.popWord]
@[simp] theorem State.popWord_y (s : State) : (s.popWord).y = s.y := by simp [State.popWord]
@[simp] theorem State.popWord_pc (s : State) : (s.popWord).pc = s.pc := by simp [State.popWord]
@[simp] theorem State.popWord_p (s : State) : (s.popWord).p = s.p := by simp [State.popWord]
@[simp] theorem State.popWord_ram (s : State) : (s.popWord).ram = s.ram := by simp [State.popWord]
@[simp] theorem State.popWord_resetPending (s : State) : (s.popWord).resetPending = s.resetPending := by simp [State.popWord]
@[simp] theorem State.popWord_nmiPending (s : State) : (s.popWord).nmiPending = s.nmiPending := by simp [State.popWord]
@[simp] theorem State.popWord_irqLine (s : State) : (s.popWord).irqLine = s.irqLine := by simp [State.popWord]
@[simp] theorem State.popWord_devices (s : State) : (s.popWord).devices = s.devices := by simp [State.popWord]
@[simp] theorem State.popWord_cart_image (s : State) : (s.popWord).cart.image = s.cart.image := by simp [State.popWord]
@[simp] theorem State.popWord_sp (s : State) : s.popWord.sp = s.sp + 1 + 1 := by simp [State.popWord]
@[simp] theorem State.saved_a (s : State) (status : Byte) : (s.saved status).a = s.a := by simp [State.saved]
@[simp] theorem State.saved_x (s : State) (status : Byte) : (s.saved status).x = s.x := by simp [State.saved]
@[simp] theorem State.saved_y (s : State) (status : Byte) : (s.saved status).y = s.y := by simp [State.saved]
@[simp] theorem State.saved_pc (s : State) (status : Byte) : (s.saved status).pc = s.pc := by simp [State.saved]
@[simp] theorem State.saved_resetPending (s : State) (status : Byte) : (s.saved status).resetPending = s.resetPending := by simp [State.saved]
@[simp] theorem State.saved_nmiPending (s : State) (status : Byte) : (s.saved status).nmiPending = s.nmiPending := by simp [State.saved]
@[simp] theorem State.saved_irqLine (s : State) (status : Byte) : (s.saved status).irqLine = s.irqLine := by simp [State.saved]
@[simp] theorem State.saved_devices (s : State) (status : Byte) : (s.saved status).devices = s.devices := by simp [State.saved]
@[simp] theorem State.saved_cart_image (s : State) (status : Byte) : (s.saved status).cart.image = s.cart.image := by simp [State.saved]
@[simp] theorem State.saved_sp (s : State) (status : Byte) : (s.saved status).sp = s.sp - 1 - 1 - 1 := by simp [State.saved]
@[simp] theorem State.saved_p (s : State) (status : Byte) : (s.saved status).p = { s.p with i := true } := by
  simp [State.saved, Config.entrySetsI]
@[simp] theorem State.entered_a (s : State) (status : Byte) (vector : Word) : (s.entered status vector).a = s.a := by simp [State.entered]
@[simp] theorem State.entered_x (s : State) (status : Byte) (vector : Word) : (s.entered status vector).x = s.x := by simp [State.entered]
@[simp] theorem State.entered_y (s : State) (status : Byte) (vector : Word) : (s.entered status vector).y = s.y := by simp [State.entered]
@[simp] theorem State.entered_resetPending (s : State) (status : Byte) (vector : Word) : (s.entered status vector).resetPending = s.resetPending := by simp [State.entered]
@[simp] theorem State.entered_nmiPending (s : State) (status : Byte) (vector : Word) : (s.entered status vector).nmiPending = s.nmiPending := by simp [State.entered]
@[simp] theorem State.entered_irqLine (s : State) (status : Byte) (vector : Word) : (s.entered status vector).irqLine = s.irqLine := by simp [State.entered]
@[simp] theorem State.entered_devices (s : State) (status : Byte) (vector : Word) : (s.entered status vector).devices = s.devices := by simp [State.entered]
@[simp] theorem State.entered_cart_image (s : State) (status : Byte) (vector : Word) : (s.entered status vector).cart.image = s.cart.image := by simp [State.entered]
@[simp] theorem State.entered_sp (s : State) (status : Byte) (vector : Word) : (s.entered status vector).sp = s.sp - 1 - 1 - 1 := by
  simp [State.entered]
@[simp] theorem State.entered_p (s : State) (status : Byte) (vector : Word) : (s.entered status vector).p = { s.p with i := true } := by
  simp [State.entered]

/-! ## The stack primitives -/

theorem push8_of_covered {s : State} (h : s.covered) (b : Byte) : push8 b s = .ok (s.push b) := by
  simp [push8, busWrite_of_claimed b (h _), bind, Except.bind, pure, Except.pure, State.push]

theorem push8_ok {b : Byte} {s t : State} (h : push8 b s = .ok t) : t = s.push b := by
  rcases busWrite_cases (stackAddr s.sp) b s with ⟨-, h1⟩ | ⟨-, h1⟩
  · simp only [push8, h1, bind, Except.bind, pure, Except.pure, Except.ok.injEq] at h
    exact h.symm
  · simp [push8, h1, bind, Except.bind] at h

theorem push8_error {b : Byte} {s : State} {f : Fault} (h : push8 b s = .error f) :
    ∃ a, f = .unmappedAccess a ∧ s.claimed a = false := by
  rcases busWrite_cases (stackAddr s.sp) b s with ⟨-, h1⟩ | ⟨hc, h1⟩
  · simp [push8, h1, bind, Except.bind, pure, Except.pure] at h
  · simp only [push8, h1, bind, Except.bind, Except.error.injEq] at h
    exact ⟨_, h.symm, hc⟩

theorem pull8_of_covered {s : State} (h : s.covered) : pull8 s = .ok (s.top, s.pop) :=
  busRead_of_claimed (s := s.setSp (s.sp + 1)) (by simpa using h _)

theorem pull8_ok {s t : State} {b : Byte} (h : pull8 s = .ok (b, t)) : b = s.top ∧ t = s.pop := busRead_ok h

theorem pull8_error {s : State} {f : Fault} (h : pull8 s = .error f) : ∃ a, f = .unmappedAccess a ∧ s.claimed a = false :=
  ⟨_, (busRead_error h).1, by simpa using (busRead_error h).2⟩

theorem State.push_covered {s : State} (h : s.covered) (b : Byte) : (s.push b).covered := State.covered_congr (by simp) h
theorem State.pop_covered {s : State} (h : s.covered) : s.pop.covered := State.covered_congr (by simp) h

theorem push16_of_covered {s : State} (h : s.covered) (w : Word) : push16 w s = .ok (s.pushWord w) := by
  simp [push16, push8_of_covered h, bind, Except.bind, push8_of_covered (State.push_covered h _), State.pushWord]

theorem push16_ok {w : Word} {s t : State} (h : push16 w s = .ok t) : t = s.pushWord w := by
  simp only [push16, bind, Except.bind] at h
  split at h
  · simp at h
  · rename_i u hu
    rw [push8_ok hu] at h
    exact push8_ok h

theorem push16_error {w : Word} {s : State} {f : Fault} (h : push16 w s = .error f) :
    ∃ a, f = .unmappedAccess a ∧ s.claimed a = false := by
  simp only [push16, bind, Except.bind] at h
  split at h
  · rename_i hu
    simp only [Except.error.injEq] at h
    exact h ▸ push8_error hu
  · rename_i u hu
    obtain ⟨a, ha, hc⟩ := push8_error h
    rw [push8_ok hu, State.claimed_congr (State.push_devices _ _)] at hc
    exact ⟨a, ha, hc⟩

theorem pull16_of_covered {s : State} (h : s.covered) : pull16 s = .ok (s.topWord, s.popWord) := by
  simp [pull16, pull8_of_covered h, bind, Except.bind, pull8_of_covered (State.pop_covered h), pure, Except.pure, State.topWord,
    State.popWord]

theorem pull16_ok {s t : State} {w : Word} (h : pull16 s = .ok (w, t)) : w = s.topWord ∧ t = s.popWord := by
  simp only [pull16, bind, Except.bind] at h
  split at h
  · simp at h
  · rename_i u hu
    obtain ⟨l, u⟩ := u
    obtain ⟨rfl, rfl⟩ := pull8_ok hu
    dsimp only at h
    split at h
    · simp at h
    · rename_i v hv
      obtain ⟨hi, v⟩ := v
      obtain ⟨rfl, rfl⟩ := pull8_ok hv
      simp only [pure, Except.pure, Except.ok.injEq, Prod.mk.injEq] at h
      exact ⟨h.1.symm, h.2.symm⟩

theorem pull16_error {s : State} {f : Fault} (h : pull16 s = .error f) : ∃ a, f = .unmappedAccess a ∧ s.claimed a = false := by
  simp only [pull16, bind, Except.bind] at h
  split at h
  · rename_i hu
    simp only [Except.error.injEq] at h
    exact h ▸ pull8_error hu
  · rename_i u hu
    obtain ⟨l, u⟩ := u
    obtain ⟨rfl, rfl⟩ := pull8_ok hu
    dsimp only at h
    split at h
    · rename_i hv
      simp only [Except.error.injEq] at h
      obtain ⟨a, ha, hc⟩ := pull8_error hv
      rw [State.claimed_congr (State.pop_devices _)] at hc
      exact ⟨a, h ▸ ha, hc⟩
    · simp [pure, Except.pure] at h

/-! ## Entry, return, reset -/

theorem enter_of_covered {s : State} (h : s.covered) (status : Byte) (vector : Word) :
    enter status vector s = .ok (s.entered status vector) := by
  have h2 : (s.pushWord s.pc).covered := State.covered_congr (by simp) h
  have h4 : ((s.pushWord s.pc).push status).covered := State.covered_congr (by simp) h
  have h3 : (s.saved status).covered := State.covered_congr (by simp) h
  have hs : ((s.pushWord s.pc).push status).setP { ((s.pushWord s.pc).push status).p with
      i := ((s.pushWord s.pc).push status).p.i || Config.entrySetsI } = s.saved status := by simp [State.saved]
  simp only [enter, push16_of_covered h, push8_of_covered h2, bind, Except.bind, hs, readWord_of_covered h3, pure, Except.pure]
  rfl

theorem enter_ok {status : Byte} {vector : Word} {s t : State} (h : enter status vector s = .ok t) : t = s.entered status vector := by
  simp only [enter, bind, Except.bind] at h
  split at h
  · simp at h
  · rename_i u hu
    obtain rfl := push16_ok hu
    split at h
    · simp at h
    · rename_i v hv
      obtain rfl := push8_ok hv
      split at h
      · simp at h
      · rename_i w hw
        obtain ⟨tw, w⟩ := w
        obtain ⟨rfl, rfl⟩ := readWord_ok hw
        simp only [pure, Except.pure, Except.ok.injEq, State.push_p, State.pushWord_p] at h
        exact h.symm

theorem enter_error {status : Byte} {vector : Word} {s : State} {f : Fault} (h : enter status vector s = .error f) :
    ∃ a, f = .unmappedAccess a ∧ s.claimed a = false := by
  simp only [enter, bind, Except.bind] at h
  split at h
  · rename_i hu
    simp only [Except.error.injEq] at h
    exact h ▸ push16_error hu
  · rename_i u hu
    obtain rfl := push16_ok hu
    split at h
    · rename_i hv
      simp only [Except.error.injEq] at h
      obtain ⟨a, ha, hc⟩ := push8_error hv
      rw [State.claimed_congr (State.pushWord_devices _ _)] at hc
      exact ⟨a, h ▸ ha, hc⟩
    · rename_i v hv
      obtain rfl := push8_ok hv
      split at h
      · rename_i hw
        simp only [Except.error.injEq] at h
        obtain ⟨a, ha, hc⟩ := readWord_error hw
        rw [State.claimed_congr (s := s) (by simp)] at hc
        exact ⟨a, h ▸ ha, hc⟩
      · simp [pure, Except.pure] at h

theorem returnFromEntry_of_covered {s : State} (h : s.covered) : returnFromEntry s = .ok s.returned := by
  have h2 : (s.pop.setP (assign s.top)).covered := State.covered_congr (by simp) h
  simp only [returnFromEntry, pull8_of_covered h, pull16_of_covered h2, bind, Except.bind, pure, Except.pure]
  rfl

theorem returnFromEntry_ok {s t : State} (h : returnFromEntry s = .ok t) : t = s.returned := by
  simp only [returnFromEntry, bind, Except.bind] at h
  split at h
  · simp at h
  · rename_i u hu
    obtain ⟨b, u⟩ := u
    obtain ⟨rfl, rfl⟩ := pull8_ok hu
    dsimp only at h
    split at h
    · simp at h
    · rename_i v hv
      obtain ⟨w, v⟩ := v
      obtain ⟨rfl, rfl⟩ := pull16_ok hv
      simp only [pure, Except.pure, Except.ok.injEq] at h
      exact h.symm

theorem returnFromEntry_error {s : State} {f : Fault} (h : returnFromEntry s = .error f) :
    ∃ a, f = .unmappedAccess a ∧ s.claimed a = false := by
  simp only [returnFromEntry, bind, Except.bind] at h
  split at h
  · rename_i hu
    simp only [Except.error.injEq] at h
    exact h ▸ pull8_error hu
  · rename_i u hu
    obtain ⟨b, u⟩ := u
    obtain ⟨rfl, rfl⟩ := pull8_ok hu
    dsimp only at h
    split at h
    · rename_i hv
      simp only [Except.error.injEq] at h
      obtain ⟨a, ha, hc⟩ := pull16_error hv
      rw [State.claimed_congr (s := s) (by simp)] at hc
      exact ⟨a, h ▸ ha, hc⟩
    · simp [pure, Except.pure] at h

theorem resetSequence_of_covered {s : State} (h : s.covered) : resetSequence s = .ok s.resetDone := by
  have h2 : ((s.setSp 0xFF).setP { s.p with i := Config.resetI }).covered := State.covered_congr (by simp) h
  simp only [resetSequence, readWord_of_covered h2, bind, Except.bind, pure, Except.pure]
  rfl

theorem resetSequence_ok {s t : State} (h : resetSequence s = .ok t) : t = s.resetDone := by
  simp only [resetSequence, bind, Except.bind] at h
  split at h
  · simp at h
  · rename_i u hu
    obtain ⟨w, u⟩ := u
    obtain ⟨rfl, rfl⟩ := readWord_ok hu
    simp only [pure, Except.pure, Except.ok.injEq] at h
    exact h.symm

theorem outcome_next {r : Except Fault State} {t : State} : outcome r = .next t ↔ r = .ok t := by
  cases r <;> simp [outcome]

theorem outcome_fault {r : Except Fault State} {f : Fault} : outcome r = .fault f ↔ r = .error f := by
  cases r <;> simp [outcome]

theorem outcome_not_refused (r : Except Fault State) (x : Refusal) : outcome r ≠ .refused x := by
  cases r <;> simp [outcome]

end Sys2Proof.Machine
end

