-- ==== Sys2Proof/Laws/Operands.lean ====
section
/-! SUPPORT. The addressing modes and the operand proxies: what each answers where every byte is claimed, what it answered when it
answered, and that it faults only on an unclaimed address (40_addressing_and_step.md R134 to R149). -/

namespace Sys2Proof.Machine

@[simp] theorem State.afterMode_a (s : State) (f : MemForm) : (s.afterMode f).a = s.a := by
  unfold State.afterMode
  split <;> simp

@[simp] theorem State.afterOperand_a (s : State) (f : MemForm) : (s.afterOperand f).a = s.a := by simp [State.afterOperand]

@[simp] theorem State.afterMode_x (s : State) (f : MemForm) : (s.afterMode f).x = s.x := by
  unfold State.afterMode
  split <;> simp

@[simp] theorem State.afterOperand_x (s : State) (f : MemForm) : (s.afterOperand f).x = s.x := by simp [State.afterOperand]

@[simp] theorem State.afterMode_y (s : State) (f : MemForm) : (s.afterMode f).y = s.y := by
  unfold State.afterMode
  split <;> simp

@[simp] theorem State.afterOperand_y (s : State) (f : MemForm) : (s.afterOperand f).y = s.y := by simp [State.afterOperand]

@[simp] theorem State.afterMode_sp (s : State) (f : MemForm) : (s.afterMode f).sp = s.sp := by
  unfold State.afterMode
  split <;> simp

@[simp] theorem State.afterOperand_sp (s : State) (f : MemForm) : (s.afterOperand f).sp = s.sp := by simp [State.afterOperand]

@[simp] theorem State.afterMode_pc (s : State) (f : MemForm) : (s.afterMode f).pc = s.pc := by
  unfold State.afterMode
  split <;> simp

@[simp] theorem State.afterOperand_pc (s : State) (f : MemForm) : (s.afterOperand f).pc = s.pc := by simp [State.afterOperand]

@[simp] theorem State.afterMode_p (s : State) (f : MemForm) : (s.afterMode f).p = s.p := by
  unfold State.afterMode
  split <;> simp

@[simp] theorem State.afterOperand_p (s : State) (f : MemForm) : (s.afterOperand f).p = s.p := by simp [State.afterOperand]

@[simp] theorem State.afterMode_ram (s : State) (f : MemForm) : (s.afterMode f).ram = s.ram := by
  unfold State.afterMode
  split <;> simp

@[simp] theorem State.afterOperand_ram (s : State) (f : MemForm) : (s.afterOperand f).ram = s.ram := by simp [State.afterOperand]

@[simp] theorem State.afterMode_resetPending (s : State) (f : MemForm) : (s.afterMode f).resetPending = s.resetPending := by
  unfold State.afterMode
  split <;> simp

@[simp] theorem State.afterOperand_resetPending (s : State) (f : MemForm) : (s.afterOperand f).resetPending = s.resetPending := by simp [State.afterOperand]

@[simp] theorem State.afterMode_nmiPending (s : State) (f : MemForm) : (s.afterMode f).nmiPending = s.nmiPending := by
  unfold State.afterMode
  split <;> simp

@[simp] theorem State.afterOperand_nmiPending (s : State) (f : MemForm) : (s.afterOperand f).nmiPending = s.nmiPending := by simp [State.afterOperand]

@[simp] theorem State.afterMode_irqLine (s : State) (f : MemForm) : (s.afterMode f).irqLine = s.irqLine := by
  unfold State.afterMode
  split <;> simp

@[simp] theorem State.afterOperand_irqLine (s : State) (f : MemForm) : (s.afterOperand f).irqLine = s.irqLine := by simp [State.afterOperand]

@[simp] theorem State.afterMode_devices (s : State) (f : MemForm) : (s.afterMode f).devices = s.devices := by
  unfold State.afterMode
  split <;> simp

@[simp] theorem State.afterOperand_devices (s : State) (f : MemForm) : (s.afterOperand f).devices = s.devices := by simp [State.afterOperand]

@[simp] theorem State.afterMode_cart_image (s : State) (f : MemForm) : (s.afterMode f).cart.image = s.cart.image := by
  unfold State.afterMode
  split <;> simp

@[simp] theorem State.afterOperand_cart_image (s : State) (f : MemForm) : (s.afterOperand f).cart.image = s.cart.image := by simp [State.afterOperand]

theorem State.afterMode_covered {s : State} (h : s.covered) (f : MemForm) : (s.afterMode f).covered :=
  State.covered_congr (by simp) h

theorem State.afterOperand_covered {s : State} (h : s.covered) (f : MemForm) : (s.afterOperand f).covered :=
  State.covered_congr (by simp) h

theorem resolve_of_covered {s : State} (h : s.covered) (f : MemForm) : resolve f s = .ok (s.effective f, s.afterMode f) := by
  unfold resolve State.effective State.afterMode
  cases f.pointer s with
  | none => rfl
  | some p => simp [readWord_of_covered h, bind, Except.bind, pure, Except.pure]

theorem resolve_ok {f : MemForm} {s t : State} {a : Word} (h : resolve f s = .ok (a, t)) : a = s.effective f ∧ t = s.afterMode f := by
  unfold resolve at h
  unfold State.effective State.afterMode
  cases hp : f.pointer s with
  | none =>
    simp only [hp, Except.ok.injEq, Prod.mk.injEq] at h
    exact ⟨h.1.symm, h.2.symm⟩
  | some p =>
    simp only [hp, bind, Except.bind] at h
    split at h
    · simp at h
    · rename_i u hu
      obtain ⟨w, u⟩ := u
      obtain ⟨rfl, rfl⟩ := readWord_ok hu
      simp only [pure, Except.pure, Except.ok.injEq, Prod.mk.injEq] at h
      exact ⟨h.1.symm, h.2.symm⟩

theorem resolve_error {f : MemForm} {s : State} {e : Fault} (h : resolve f s = .error e) :
    ∃ a, e = .unmappedAccess a ∧ s.claimed a = false := by
  unfold resolve at h
  cases hp : f.pointer s with
  | none => simp [hp] at h
  | some p =>
    simp only [hp, bind, Except.bind] at h
    split at h
    · rename_i hu
      simp only [Except.error.injEq] at h
      exact h ▸ readWord_error hu
    · simp [pure, Except.pure] at h

/-! ## Instructions with a value operand: one read, then a change of registers -/

/-- The shape of every instruction with a value operand: read it once, then compute the next state from it. -/
def readThen (g : State → Byte → State) (o : ValueOperand) (s : State) : Except Fault State := do
  let (m, t) ← value o s
  return g t m

theorem readThen_imm (g : State → Byte → State) (b : Byte) (s : State) : outcome (readThen g (.imm b) s) = .next (g s b) := rfl

theorem onValue_of_covered {s : State} (h : s.covered) (f : MemForm) (g : State → Byte → State) :
    onValue f (readThen g) s = .next (g (s.afterOperand f) (s.operand f)) := by
  simp [onValue, onMemory, resolve_of_covered h, bind, Except.bind, readThen, value, refRead,
    busRead_of_claimed (State.afterMode_covered h f _), pure, Except.pure, outcome, State.afterOperand, State.operand]

theorem onValue_next {s t : State} {f : MemForm} {g : State → Byte → State} (h : onValue f (readThen g) s = .next t) :
    t = g (s.afterOperand f) (s.operand f) := by
  rw [onValue, onMemory, outcome_next] at h
  simp only [bind, Except.bind] at h
  split at h
  · simp at h
  · rename_i u hu
    obtain ⟨a, u⟩ := u
    obtain ⟨rfl, rfl⟩ := resolve_ok hu
    simp only [readThen, value, refRead, bind, Except.bind] at h
    split at h
    · simp at h
    · rename_i v hv
      obtain ⟨m, v⟩ := v
      obtain ⟨rfl, rfl⟩ := busRead_ok hv
      simp only [pure, Except.pure, Except.ok.injEq] at h
      exact h.symm

theorem onValue_fault {s : State} {e : Fault} {f : MemForm} {g : State → Byte → State} (h : onValue f (readThen g) s = .fault e) :
    ∃ a, e = .unmappedAccess a ∧ s.claimed a = false := by
  rw [onValue, onMemory, outcome_fault] at h
  simp only [bind, Except.bind] at h
  split at h
  · rename_i hu
    simp only [Except.error.injEq] at h
    exact h ▸ resolve_error hu
  · rename_i u hu
    obtain ⟨a, u⟩ := u
    obtain ⟨rfl, rfl⟩ := resolve_ok hu
    simp only [readThen, value, refRead, bind, Except.bind] at h
    split at h
    · rename_i hv
      simp only [Except.error.injEq] at h
      obtain ⟨he, hc⟩ := busRead_error hv
      rw [State.claimed_congr (State.afterMode_devices s f)] at hc
      exact ⟨_, h ▸ he, hc⟩
    · simp [pure, Except.pure] at h

theorem opLda_eq : opLda = readThen State.loadA := rfl
theorem opLdx_eq : opLdx = readThen State.loadX := rfl
theorem opLdy_eq : opLdy = readThen State.loadY := rfl
theorem opAdc_eq : opAdc = readThen State.addToA := rfl
theorem opSbc_eq : opSbc = readThen fun t m => t.addToA (m ^^^ 0xFF) := rfl
theorem opAnd_eq : opAnd = readThen fun t m => t.loadA (t.a &&& m) := rfl
theorem opOra_eq : opOra = readThen fun t m => t.loadA (t.a ||| m) := rfl
theorem opEor_eq : opEor = readThen fun t m => t.loadA (t.a ^^^ m) := rfl
theorem opCmp_eq : opCmp = readThen fun t m => t.setP (compareFlags t.p t.a m) := rfl
theorem opCpx_eq : opCpx = readThen fun t m => t.setP (compareFlags t.p t.x m) := rfl
theorem opCpy_eq : opCpy = readThen fun t m => t.setP (compareFlags t.p t.y m) := rfl

/-- BIT takes a Reference and reads it once, as the value instructions do (R217). -/
theorem opBit_eq (r : Ref) : opBit r = readThen (fun t m => t.setP (bitTestFlags t.p t.a m)) (.ref r) := rfl

/-! ## Stores -/

theorem onMemory_store_of_covered {s : State} (h : s.covered) (f : MemForm) (reg : State → Byte) (hr : reg (s.afterMode f) = reg s) :
    onMemory f (fun r s => refWrite r (reg s) s) s = .next ((s.afterMode f).store (s.effective f) (reg s)) := by
  simp [onMemory, resolve_of_covered h, bind, Except.bind, refWrite, busWrite_of_claimed _ (State.afterMode_covered h f _), outcome,
    hr]

theorem onMemory_store_next {s t : State} {f : MemForm} {reg : State → Byte}
    (h : onMemory f (fun r s => refWrite r (reg s) s) s = .next t) :
    t = (s.afterMode f).store (s.effective f) (reg (s.afterMode f)) := by
  rw [onMemory, outcome_next] at h
  simp only [bind, Except.bind] at h
  split at h
  · simp at h
  · rename_i u hu
    obtain ⟨a, u⟩ := u
    obtain ⟨rfl, rfl⟩ := resolve_ok hu
    exact busWrite_ok h

theorem onMemory_store_fault {s : State} {e : Fault} {f : MemForm} {reg : State → Byte}
    (h : onMemory f (fun r s => refWrite r (reg s) s) s = .fault e) : ∃ a, e = .unmappedAccess a ∧ s.claimed a = false := by
  rw [onMemory, outcome_fault] at h
  simp only [bind, Except.bind] at h
  split at h
  · rename_i hu
    simp only [Except.error.injEq] at h
    exact h ▸ resolve_error hu
  · rename_i u hu
    obtain ⟨a, u⟩ := u
    obtain ⟨rfl, rfl⟩ := resolve_ok hu
    obtain ⟨he, hc⟩ := busWrite_error h
    rw [State.claimed_congr (State.afterMode_devices s f)] at hc
    exact ⟨_, he, hc⟩

/-! ## Read-modify-write instructions: one read, one write, then a change of the flags -/

/-- The shape of INC, DEC, ASL, LSR, ROL, ROR: read a Reference, write a byte computed from it, then write flags from it. -/
def modify (f : Byte → Byte) (g : Flags → Byte → Flags) (r : Ref) (s : State) : Except Fault State := do
  let (m, t) ← refRead r s
  let u ← refWrite r (f m) t
  return u.setP (g u.p m)

theorem modify_acc (f : Byte → Byte) (g : Flags → Byte → Flags) (s : State) :
    outcome (modify f g .acc s) = .next ((s.setA (f s.a)).setP (g s.p s.a)) := rfl

/-- The state a read-modify-write instruction leaves where every byte is claimed. -/
def State.modified (s : State) (form : MemForm) (f : Byte → Byte) (g : Flags → Byte → Flags) : State :=
  ((s.afterOperand form).store (s.effective form) (f (s.operand form))).setP (g s.p (s.operand form))

theorem onMemory_modify_of_covered {s : State} (h : s.covered) (form : MemForm) (f : Byte → Byte) (g : Flags → Byte → Flags) :
    onMemory form (modify f g) s = .next (s.modified form f g) := by
  have h2 : ((s.afterMode form).touch (s.effective form)).claimed (s.effective form) = true := by
    rw [State.touch_claimed]
    exact State.afterMode_covered h form _
  simp [onMemory, resolve_of_covered h, bind, Except.bind, modify, refRead, refWrite,
    busRead_of_claimed (State.afterMode_covered h form _), busWrite_of_claimed _ h2, pure, Except.pure, outcome, State.modified,
    State.afterOperand, State.operand]

theorem onMemory_modify_next {s t : State} {form : MemForm} {f : Byte → Byte} {g : Flags → Byte → Flags}
    (h : onMemory form (modify f g) s = .next t) : t = s.modified form f g := by
  rw [onMemory, outcome_next] at h
  simp only [bind, Except.bind] at h
  split at h
  · simp at h
  · rename_i u hu
    obtain ⟨a, u⟩ := u
    obtain ⟨rfl, rfl⟩ := resolve_ok hu
    simp only [modify, refRead, refWrite, bind, Except.bind] at h
    split at h
    · simp at h
    · rename_i v hv
      obtain ⟨m, v⟩ := v
      obtain ⟨rfl, rfl⟩ := busRead_ok hv
      dsimp only at h
      split at h
      · simp at h
      · rename_i w hw
        obtain rfl := busWrite_ok hw
        simp only [pure, Except.pure, Except.ok.injEq] at h
        rw [← h]
        simp [State.modified, State.afterOperand, State.operand]

theorem onMemory_modify_fault {s : State} {e : Fault} {form : MemForm} {f : Byte → Byte} {g : Flags → Byte → Flags}
    (h : onMemory form (modify f g) s = .fault e) : ∃ a, e = .unmappedAccess a ∧ s.claimed a = false := by
  rw [onMemory, outcome_fault] at h
  simp only [bind, Except.bind] at h
  split at h
  · rename_i hu
    simp only [Except.error.injEq] at h
    exact h ▸ resolve_error hu
  · rename_i u hu
    obtain ⟨a, u⟩ := u
    obtain ⟨rfl, rfl⟩ := resolve_ok hu
    simp only [modify, refRead, refWrite, bind, Except.bind] at h
    split at h
    · rename_i hv
      simp only [Except.error.injEq] at h
      obtain ⟨he, hc⟩ := busRead_error hv
      rw [State.claimed_congr (State.afterMode_devices s form)] at hc
      exact ⟨_, h ▸ he, hc⟩
    · rename_i v hv
      obtain ⟨m, v⟩ := v
      obtain ⟨rfl, rfl⟩ := busRead_ok hv
      dsimp only at h
      split at h
      · rename_i hw
        simp only [Except.error.injEq] at h
        obtain ⟨he, hc⟩ := busWrite_error hw
        rw [State.claimed_congr (s := s) (by simp)] at hc
        exact ⟨_, h ▸ he, hc⟩
      · simp [pure, Except.pure] at h

theorem opInc_eq : opInc = modify (fun m => m + 1) (fun p m => logical p (m + 1)) := rfl
theorem opDec_eq : opDec = modify (fun m => m - 1) (fun p m => logical p (m - 1)) := rfl

/-- The shape of a shift or rotate (R213 to R216). -/
theorem shiftRef_eq (f : Byte → Byte × Bool) : shiftRef f = modify (fun m => (f m).1) (fun p m => shiftFlags p (f m)) := rfl

theorem onMemory_asl (form : MemForm) (s : State) :
    onMemory form opAsl s = onMemory form (modify (fun m => (shiftLeft m false).1) fun p m => shiftFlags p (shiftLeft m false)) s := rfl

theorem onMemory_lsr (form : MemForm) (s : State) :
    onMemory form opLsr s = onMemory form (modify (fun m => (shiftRight m false).1) fun p m => shiftFlags p (shiftRight m false)) s := rfl

/-- The modes leave the carry alone, so the carry a rotate takes in is the one before the instruction (R215). -/
theorem onMemory_rol (form : MemForm) (s : State) :
    onMemory form opRol s = onMemory form (modify (fun m => (rotateLeft m s.p.c).1) fun p m => shiftFlags p (rotateLeft m s.p.c)) s := by
  unfold onMemory
  simp only [bind, Except.bind]
  split
  · rfl
  · rename_i u hu
    obtain ⟨a, u⟩ := u
    obtain ⟨rfl, rfl⟩ := resolve_ok hu
    simp [opRol, shiftRef_eq]

theorem onMemory_ror (form : MemForm) (s : State) :
    onMemory form opRor s = onMemory form (modify (fun m => (rotateRight m s.p.c).1) fun p m => shiftFlags p (rotateRight m s.p.c)) s := by
  unfold onMemory
  simp only [bind, Except.bind]
  split
  · rfl
  · rename_i u hu
    obtain ⟨a, u⟩ := u
    obtain ⟨rfl, rfl⟩ := resolve_ok hu
    simp [opRor, shiftRef_eq]

end Sys2Proof.Machine
end

