-- ==== Sys2Proof/Laws/Fetch.lean ====
section
/-! SUPPORT. Fetching, and what a step does (40_addressing_and_step.md R130 to R132). -/

namespace Sys2Proof.Machine

theorem fetch8_of_covered {s : State} (h : s.covered) : fetch8 s = .ok (s.byteAt s.pc, s.afterFetch) := by
  simp [fetch8, busRead_of_claimed (h _), bind, Except.bind, pure, Except.pure, State.afterFetch]

theorem fetch8_ok {s t : State} {b : Byte} (h : fetch8 s = .ok (b, t)) : b = s.byteAt s.pc ∧ t = s.afterFetch := by
  simp only [fetch8, bind, Except.bind] at h
  split at h
  · simp at h
  · rename_i u hu
    obtain ⟨c, u⟩ := u
    obtain ⟨rfl, rfl⟩ := busRead_ok hu
    simp only [pure, Except.pure, Except.ok.injEq, Prod.mk.injEq] at h
    exact ⟨h.1.symm, h.2.symm⟩

theorem fetch8_error {s : State} {f : Fault} (h : fetch8 s = .error f) : f = .unmappedAccess s.pc ∧ s.claimed s.pc = false := by
  simp only [fetch8, bind, Except.bind] at h
  split at h
  · rename_i hu
    simp only [Except.error.injEq] at h
    exact h ▸ busRead_error hu
  · simp [pure, Except.pure] at h

@[simp] theorem State.afterFetch_pc (s : State) : s.afterFetch.pc = s.pc + 1 := by simp [State.afterFetch]
@[simp] theorem State.afterFetch_devices (s : State) : s.afterFetch.devices = s.devices := by simp [State.afterFetch]
@[simp] theorem State.afterFetch_p (s : State) : s.afterFetch.p = s.p := by simp [State.afterFetch]
@[simp] theorem State.afterFetch_ram (s : State) : s.afterFetch.ram = s.ram := by simp [State.afterFetch]
@[simp] theorem State.afterFetch_image (s : State) : s.afterFetch.cart.image = s.cart.image := by simp [State.afterFetch]

theorem State.afterFetch_covered {s : State} (h : s.covered) : s.afterFetch.covered := State.covered_congr (by simp) h

theorem fetch16_of_covered {s : State} (h : s.covered) :
    fetch16 s = .ok (word (s.afterFetch.byteAt (s.pc + 1)) (s.byteAt s.pc), s.afterFetches 2) := by
  simp [fetch16, fetch8_of_covered h, fetch8_of_covered (State.afterFetch_covered h), bind, Except.bind, pure, Except.pure,
    State.afterFetches]

theorem fetch16_ok {s t : State} {w : Word} (h : fetch16 s = .ok (w, t)) :
    w = word (s.afterFetch.byteAt (s.pc + 1)) (s.byteAt s.pc) ∧ t = s.afterFetches 2 := by
  simp only [fetch16, bind, Except.bind] at h
  split at h
  · simp at h
  · rename_i u hu
    obtain ⟨l, u⟩ := u
    obtain ⟨rfl, rfl⟩ := fetch8_ok hu
    dsimp only at h
    split at h
    · simp at h
    · rename_i v hv
      obtain ⟨hi, v⟩ := v
      obtain ⟨rfl, rfl⟩ := fetch8_ok hv
      simp only [pure, Except.pure, Except.ok.injEq, Prod.mk.injEq, State.afterFetch_pc] at h
      exact ⟨h.1.symm, h.2.symm⟩

/-- A fetch that answers has fetched one, two or three bytes. -/
theorem fetchInstr_ok {s t : State} {i : Instr} (h : fetchInstr s = .ok (i, t)) : ∃ n, n ≤ 3 ∧ t = s.afterFetches n := by
  simp only [fetchInstr, bind, Except.bind] at h
  split at h
  · simp at h
  · rename_i u hu
    obtain ⟨op, u⟩ := u
    obtain ⟨rfl, rfl⟩ := fetch8_ok hu
    dsimp only at h
    split at h
    · simp at h
    · simp only [pure, Except.pure, Except.ok.injEq, Prod.mk.injEq] at h
      exact ⟨1, by omega, h.2.symm⟩
    · split at h
      · simp at h
      · rename_i v hv
        obtain ⟨b, v⟩ := v
        obtain ⟨rfl, rfl⟩ := fetch8_ok hv
        simp only [pure, Except.pure, Except.ok.injEq, Prod.mk.injEq] at h
        exact ⟨2, by omega, h.2.symm⟩
    · split at h
      · simp at h
      · rename_i v hv
        obtain ⟨w, v⟩ := v
        obtain ⟨rfl, rfl⟩ := fetch16_ok hv
        simp only [pure, Except.pure, Except.ok.injEq, Prod.mk.injEq] at h
        exact ⟨3, by omega, h.2.symm⟩

/-- With no event pending, a step fetches. -/
theorem serveEvent_of_quiet {s : State} (h : s.quiet) : serveEvent s = none := by
  obtain ⟨h1, h2, h3⟩ := h
  rcases h3 with h3 | h3 <;> simp [serveEvent, h1, h2, h3]

/-- Everything a step can do. -/
theorem step_cases (s : State) :
    (s.resetPending = true ∧ step s = outcome (resetSequence s)) ∨
      (s.resetPending = false ∧ s.nmiPending = true ∧ step s = outcome (interruptEntry nmiVector (s.setNmiPending false))) ∨
      (s.resetPending = false ∧ s.nmiPending = false ∧ s.irqLine = true ∧ s.p.i = false ∧
        step s = outcome (interruptEntry irqVector s)) ∨
      (s.quiet ∧ ((∃ f, fetchInstr s = .error f ∧ step s = .fault f) ∨ (∃ i t, fetchInstr s = .ok (i, t) ∧ step s = exec i t))) := by
  cases h1 : s.resetPending
  · cases h2 : s.nmiPending
    · cases h3 : s.irqLine
      · refine .inr (.inr (.inr ⟨⟨h1, h2, .inl h3⟩, ?_⟩))
        cases hf : fetchInstr s with
        | error f => exact .inl ⟨f, rfl, by simp [step, serveEvent, h1, h2, h3, hf]⟩
        | ok r => exact .inr ⟨r.1, r.2, rfl, by simp [step, serveEvent, h1, h2, h3, hf]⟩
      · cases h4 : s.p.i
        · exact .inr (.inr (.inl ⟨rfl, rfl, rfl, rfl, by simp [step, serveEvent, h1, h2, h3, h4]⟩))
        · refine .inr (.inr (.inr ⟨⟨h1, h2, .inr h4⟩, ?_⟩))
          cases hf : fetchInstr s with
          | error f => exact .inl ⟨f, rfl, by simp [step, serveEvent, h1, h2, h3, h4, hf]⟩
          | ok r => exact .inr ⟨r.1, r.2, rfl, by simp [step, serveEvent, h1, h2, h3, h4, hf]⟩
    · exact .inr (.inl ⟨rfl, rfl, by simp [step, serveEvent, h1, h2]⟩)
  · exact .inl ⟨rfl, by simp [step, serveEvent, h1]⟩

end Sys2Proof.Machine
end

