-- ==== Sys2Proof/Laws/Invariant.lean ====
section
/-! SUPPORT. The invariant `State.wf` under the shared operations, and what an access does to a device window. -/

namespace Sys2Proof.Machine

theorem Port.extendedBy_refl (p : Port) : p.extendedBy p := ⟨rfl, rfl, List.suffix_refl _⟩

theorem Port.extendedBy_trans {p q r : Port} (h : p.extendedBy q) (k : q.extendedBy r) : p.extendedBy r :=
  ⟨k.1.trans h.1, k.2.1.trans h.2.1, h.2.2.trans k.2.2⟩

theorem Port.after_extends (p : Port) (e : PortEvent) : p.extendedBy (p.after e) := by
  unfold Port.after
  split
  · exact Port.extendedBy_refl p
  · exact ⟨rfl, rfl, List.suffix_cons _ _⟩

theorem State.touch_ports (s : State) (a : Word) :
    s.ppu.extendedBy (s.touch a).ppu ∧ s.io.extendedBy (s.touch a).io ∧ s.cart.low.extendedBy (s.touch a).cart.low := by
  unfold State.touch Slot.afterRead
  split
  · split <;> (try split)
    all_goals first
      | exact ⟨Port.extendedBy_refl _, Port.extendedBy_refl _, Port.extendedBy_refl _⟩
      | exact ⟨Port.after_extends _ _, Port.extendedBy_refl _, Port.extendedBy_refl _⟩
      | exact ⟨Port.extendedBy_refl _, Port.after_extends _ _, Port.extendedBy_refl _⟩
      | exact ⟨Port.extendedBy_refl _, Port.extendedBy_refl _, Port.after_extends _ _⟩
  · exact ⟨Port.extendedBy_refl _, Port.extendedBy_refl _, Port.extendedBy_refl _⟩

theorem State.store_ports (s : State) (a : Word) (v : Byte) :
    s.ppu.extendedBy (s.store a v).ppu ∧ s.io.extendedBy (s.store a v).io ∧ s.cart.low.extendedBy (s.store a v).cart.low := by
  unfold State.store Slot.afterWrite
  split
  · split <;> (try split)
    all_goals first
      | exact ⟨Port.extendedBy_refl _, Port.extendedBy_refl _, Port.extendedBy_refl _⟩
      | exact ⟨Port.after_extends _ _, Port.extendedBy_refl _, Port.extendedBy_refl _⟩
      | exact ⟨Port.extendedBy_refl _, Port.after_extends _ _, Port.extendedBy_refl _⟩
      | exact ⟨Port.extendedBy_refl _, Port.extendedBy_refl _, Port.after_extends _ _⟩
  · exact ⟨Port.extendedBy_refl _, Port.extendedBy_refl _, Port.extendedBy_refl _⟩

/-- The invariant reads only RAM, the device list and the image. -/
theorem State.wf_congr {s t : State} (hr : t.ram = s.ram) (hd : t.devices = s.devices) (hi : t.cart.image = s.cart.image)
    (h : s.wf) : t.wf := by
  unfold State.wf
  rw [hr, hd, hi]
  exact h

theorem State.touch_wf {s : State} (a : Word) (h : s.wf) : (s.touch a).wf := State.wf_congr (by simp) (by simp) (by simp) h

/-- A bus write keeps the invariant: a RAM index lies below the capacity of its segment. -/
theorem State.store_wf {s : State} (a : Word) (v : Byte) (h : s.wf) : (s.store a v).wf := by
  refine ⟨?_, ?_, by simpa using h.2.2.1, by simpa using h.2.2.2⟩
  · unfold State.store Slot.afterWrite
    split
    · split
      · exact Memory.write_wf _ _ _ h.1
      · exact h.1
      · exact h.1
      · split <;> exact h.1
    · exact h.1
  · unfold State.store Slot.afterWrite
    split
    · rename_i d hd
      split
      · rename_i hk
        have hm : d ∈ s.devices := List.mem_of_find?_eq_some hd
        obtain ⟨-, -, hc, hcap⟩ := h.2.2.1 d hm
        exact Memory.write_below _ _ _ _ (Nat.lt_of_lt_of_le (Nat.mod_lt _ hc) (hcap hk)) h.2.1
      · exact h.2.1
      · exact h.2.1
      · split <;> exact h.2.1
    · exact h.2.1

theorem State.push_wf {s : State} (b : Byte) (h : s.wf) : (s.push b).wf := State.store_wf (s := s) _ b h
theorem State.pop_wf {s : State} (h : s.wf) : s.pop.wf := State.wf_congr (by simp) (by simp) (by simp) h
theorem State.pushWord_wf {s : State} (w : Word) (h : s.wf) : (s.pushWord w).wf := State.push_wf _ (State.push_wf _ h)
theorem State.saved_wf {s : State} (status : Byte) (h : s.wf) : (s.saved status).wf :=
  State.push_wf (s := s.pushWord s.pc) status (State.pushWord_wf _ h)
theorem State.entered_wf {s : State} (status : Byte) (vector : Word) (h : s.wf) : (s.entered status vector).wf :=
  State.wf_congr (s := s.saved status) (by simp [State.entered]) (by simp [State.entered]) (by simp [State.entered])
    (State.saved_wf status h)

theorem State.afterFetches_wf (n : Nat) {s : State} (h : s.wf) : (s.afterFetches n).wf := by
  induction n generalizing s with
  | zero => exact h
  | succ n ih => exact ih (State.wf_congr (s := s) (by simp) (by simp) (by simp) h)

end Sys2Proof.Machine
end

