-- ==== Sys2Proof/Laws/Exec.lean ====
section
/-! SUPPORT. Everything an instruction can do, said once: it either leaves the one state `Instr.result` names, or it faults on an
address no device claims. Every statement over all instructions is a statement about `Instr.result`. -/

namespace Sys2Proof.Machine

def State.subFromA (t : State) (m : Byte) : State := t.addToA (m ^^^ 0xFF)
def State.andA (t : State) (m : Byte) : State := t.loadA (t.a &&& m)
def State.oraA (t : State) (m : Byte) : State := t.loadA (t.a ||| m)
def State.eorA (t : State) (m : Byte) : State := t.loadA (t.a ^^^ m)
def State.cmpA (t : State) (m : Byte) : State := t.setP (compareFlags t.p t.a m)
def State.cmpX (t : State) (m : Byte) : State := t.setP (compareFlags t.p t.x m)
def State.cmpY (t : State) (m : Byte) : State := t.setP (compareFlags t.p t.y m)
def State.bitA (t : State) (m : Byte) : State := t.setP (bitTestFlags t.p t.a m)
def State.incAt (s : State) (f : MemForm) : State := s.modified f (fun m => m + 1) (fun p m => logical p (m + 1))
def State.decAt (s : State) (f : MemForm) : State := s.modified f (fun m => m - 1) (fun p m => logical p (m - 1))
def State.aslAt (s : State) (f : MemForm) : State :=
  s.modified f (fun m => (shiftLeft m false).1) fun p m => shiftFlags p (shiftLeft m false)
def State.aslA (s : State) : State := (s.setA (shiftLeft s.a false).1).setP (shiftFlags s.p (shiftLeft s.a false))
def State.lsrAt (s : State) (f : MemForm) : State :=
  s.modified f (fun m => (shiftRight m false).1) fun p m => shiftFlags p (shiftRight m false)
def State.lsrA (s : State) : State := (s.setA (shiftRight s.a false).1).setP (shiftFlags s.p (shiftRight s.a false))
def State.rolAt (s : State) (f : MemForm) : State :=
  s.modified f (fun m => (rotateLeft m s.p.c).1) fun p m => shiftFlags p (rotateLeft m s.p.c)
def State.rolA (s : State) : State := (s.setA (rotateLeft s.a s.p.c).1).setP (shiftFlags s.p (rotateLeft s.a s.p.c))
def State.rorAt (s : State) (f : MemForm) : State :=
  s.modified f (fun m => (rotateRight m s.p.c).1) fun p m => shiftFlags p (rotateRight m s.p.c)
def State.rorA (s : State) : State := (s.setA (rotateRight s.a s.p.c).1).setP (shiftFlags s.p (rotateRight s.a s.p.c))

end Sys2Proof.Machine

namespace Sys2Proof

open Machine

/-- The state an instruction leaves where every byte it touches is claimed. -/
def Instr.result (i : Instr) (s : State) : State :=
  match i with
  | .ldaImm d8 => State.loadA s d8
  | .ldaZp d8 => State.loadA (s.afterOperand (.zp d8)) (s.operand (.zp d8))
  | .ldaZpx d8 => State.loadA (s.afterOperand (.zpx d8)) (s.operand (.zpx d8))
  | .ldaAbs d16 => State.loadA (s.afterOperand (.abs d16)) (s.operand (.abs d16))
  | .ldaAbx d16 => State.loadA (s.afterOperand (.abx d16)) (s.operand (.abx d16))
  | .ldaAby d16 => State.loadA (s.afterOperand (.aby d16)) (s.operand (.aby d16))
  | .ldaIzx d8 => State.loadA (s.afterOperand (.izx d8)) (s.operand (.izx d8))
  | .ldaIzy d8 => State.loadA (s.afterOperand (.izy d8)) (s.operand (.izy d8))
  | .ldxImm d8 => State.loadX s d8
  | .ldxZp d8 => State.loadX (s.afterOperand (.zp d8)) (s.operand (.zp d8))
  | .ldxZpy d8 => State.loadX (s.afterOperand (.zpy d8)) (s.operand (.zpy d8))
  | .ldxAbs d16 => State.loadX (s.afterOperand (.abs d16)) (s.operand (.abs d16))
  | .ldxAby d16 => State.loadX (s.afterOperand (.aby d16)) (s.operand (.aby d16))
  | .ldyImm d8 => State.loadY s d8
  | .ldyZp d8 => State.loadY (s.afterOperand (.zp d8)) (s.operand (.zp d8))
  | .ldyZpx d8 => State.loadY (s.afterOperand (.zpx d8)) (s.operand (.zpx d8))
  | .ldyAbs d16 => State.loadY (s.afterOperand (.abs d16)) (s.operand (.abs d16))
  | .ldyAbx d16 => State.loadY (s.afterOperand (.abx d16)) (s.operand (.abx d16))
  | .staZp d8 => (s.afterMode (.zp d8)).store (s.effective (.zp d8)) s.a
  | .staZpx d8 => (s.afterMode (.zpx d8)).store (s.effective (.zpx d8)) s.a
  | .staAbs d16 => (s.afterMode (.abs d16)).store (s.effective (.abs d16)) s.a
  | .staAbx d16 => (s.afterMode (.abx d16)).store (s.effective (.abx d16)) s.a
  | .staAby d16 => (s.afterMode (.aby d16)).store (s.effective (.aby d16)) s.a
  | .staIzx d8 => (s.afterMode (.izx d8)).store (s.effective (.izx d8)) s.a
  | .staIzy d8 => (s.afterMode (.izy d8)).store (s.effective (.izy d8)) s.a
  | .stxZp d8 => (s.afterMode (.zp d8)).store (s.effective (.zp d8)) s.x
  | .stxZpy d8 => (s.afterMode (.zpy d8)).store (s.effective (.zpy d8)) s.x
  | .stxAbs d16 => (s.afterMode (.abs d16)).store (s.effective (.abs d16)) s.x
  | .styZp d8 => (s.afterMode (.zp d8)).store (s.effective (.zp d8)) s.y
  | .styZpx d8 => (s.afterMode (.zpx d8)).store (s.effective (.zpx d8)) s.y
  | .styAbs d16 => (s.afterMode (.abs d16)).store (s.effective (.abs d16)) s.y
  | .tax => s.loadX s.a
  | .tay => s.loadY s.a
  | .txa => s.loadA s.x
  | .tya => s.loadA s.y
  | .txs => s.setSp s.x
  | .tsx => s.loadX s.sp
  | .adcImm d8 => State.addToA s d8
  | .adcZp d8 => State.addToA (s.afterOperand (.zp d8)) (s.operand (.zp d8))
  | .adcZpx d8 => State.addToA (s.afterOperand (.zpx d8)) (s.operand (.zpx d8))
  | .adcAbs d16 => State.addToA (s.afterOperand (.abs d16)) (s.operand (.abs d16))
  | .adcAbx d16 => State.addToA (s.afterOperand (.abx d16)) (s.operand (.abx d16))
  | .adcAby d16 => State.addToA (s.afterOperand (.aby d16)) (s.operand (.aby d16))
  | .adcIzx d8 => State.addToA (s.afterOperand (.izx d8)) (s.operand (.izx d8))
  | .adcIzy d8 => State.addToA (s.afterOperand (.izy d8)) (s.operand (.izy d8))
  | .sbcImm d8 => State.subFromA s d8
  | .sbcZp d8 => State.subFromA (s.afterOperand (.zp d8)) (s.operand (.zp d8))
  | .sbcZpx d8 => State.subFromA (s.afterOperand (.zpx d8)) (s.operand (.zpx d8))
  | .sbcAbs d16 => State.subFromA (s.afterOperand (.abs d16)) (s.operand (.abs d16))
  | .sbcAbx d16 => State.subFromA (s.afterOperand (.abx d16)) (s.operand (.abx d16))
  | .sbcAby d16 => State.subFromA (s.afterOperand (.aby d16)) (s.operand (.aby d16))
  | .sbcIzx d8 => State.subFromA (s.afterOperand (.izx d8)) (s.operand (.izx d8))
  | .sbcIzy d8 => State.subFromA (s.afterOperand (.izy d8)) (s.operand (.izy d8))
  | .incZp d8 => State.incAt s (.zp d8)
  | .incZpx d8 => State.incAt s (.zpx d8)
  | .incAbs d16 => State.incAt s (.abs d16)
  | .incAbx d16 => State.incAt s (.abx d16)
  | .decZp d8 => State.decAt s (.zp d8)
  | .decZpx d8 => State.decAt s (.zpx d8)
  | .decAbs d16 => State.decAt s (.abs d16)
  | .decAbx d16 => State.decAt s (.abx d16)
  | .inx => s.loadX (s.x + 1)
  | .iny => s.loadY (s.y + 1)
  | .dex => s.loadX (s.x - 1)
  | .dey => s.loadY (s.y - 1)
  | .andImm d8 => State.andA s d8
  | .andZp d8 => State.andA (s.afterOperand (.zp d8)) (s.operand (.zp d8))
  | .andZpx d8 => State.andA (s.afterOperand (.zpx d8)) (s.operand (.zpx d8))
  | .andAbs d16 => State.andA (s.afterOperand (.abs d16)) (s.operand (.abs d16))
  | .andAbx d16 => State.andA (s.afterOperand (.abx d16)) (s.operand (.abx d16))
  | .andAby d16 => State.andA (s.afterOperand (.aby d16)) (s.operand (.aby d16))
  | .andIzx d8 => State.andA (s.afterOperand (.izx d8)) (s.operand (.izx d8))
  | .andIzy d8 => State.andA (s.afterOperand (.izy d8)) (s.operand (.izy d8))
  | .oraImm d8 => State.oraA s d8
  | .oraZp d8 => State.oraA (s.afterOperand (.zp d8)) (s.operand (.zp d8))
  | .oraZpx d8 => State.oraA (s.afterOperand (.zpx d8)) (s.operand (.zpx d8))
  | .oraAbs d16 => State.oraA (s.afterOperand (.abs d16)) (s.operand (.abs d16))
  | .oraAbx d16 => State.oraA (s.afterOperand (.abx d16)) (s.operand (.abx d16))
  | .oraAby d16 => State.oraA (s.afterOperand (.aby d16)) (s.operand (.aby d16))
  | .oraIzx d8 => State.oraA (s.afterOperand (.izx d8)) (s.operand (.izx d8))
  | .oraIzy d8 => State.oraA (s.afterOperand (.izy d8)) (s.operand (.izy d8))
  | .eorImm d8 => State.eorA s d8
  | .eorZp d8 => State.eorA (s.afterOperand (.zp d8)) (s.operand (.zp d8))
  | .eorZpx d8 => State.eorA (s.afterOperand (.zpx d8)) (s.operand (.zpx d8))
  | .eorAbs d16 => State.eorA (s.afterOperand (.abs d16)) (s.operand (.abs d16))
  | .eorAbx d16 => State.eorA (s.afterOperand (.abx d16)) (s.operand (.abx d16))
  | .eorAby d16 => State.eorA (s.afterOperand (.aby d16)) (s.operand (.aby d16))
  | .eorIzx d8 => State.eorA (s.afterOperand (.izx d8)) (s.operand (.izx d8))
  | .eorIzy d8 => State.eorA (s.afterOperand (.izy d8)) (s.operand (.izy d8))
  | .aslAcc => State.aslA s
  | .aslZp d8 => State.aslAt s (.zp d8)
  | .aslZpx d8 => State.aslAt s (.zpx d8)
  | .aslAbs d16 => State.aslAt s (.abs d16)
  | .aslAbx d16 => State.aslAt s (.abx d16)
  | .lsrAcc => State.lsrA s
  | .lsrZp d8 => State.lsrAt s (.zp d8)
  | .lsrZpx d8 => State.lsrAt s (.zpx d8)
  | .lsrAbs d16 => State.lsrAt s (.abs d16)
  | .lsrAbx d16 => State.lsrAt s (.abx d16)
  | .rolAcc => State.rolA s
  | .rolZp d8 => State.rolAt s (.zp d8)
  | .rolZpx d8 => State.rolAt s (.zpx d8)
  | .rolAbs d16 => State.rolAt s (.abs d16)
  | .rolAbx d16 => State.rolAt s (.abx d16)
  | .rorAcc => State.rorA s
  | .rorZp d8 => State.rorAt s (.zp d8)
  | .rorZpx d8 => State.rorAt s (.zpx d8)
  | .rorAbs d16 => State.rorAt s (.abs d16)
  | .rorAbx d16 => State.rorAt s (.abx d16)
  | .bitZp d8 => State.bitA (s.afterOperand (.zp d8)) (s.operand (.zp d8))
  | .bitAbs d16 => State.bitA (s.afterOperand (.abs d16)) (s.operand (.abs d16))
  | .bcc d8 => branchIf (!s.p.c) d8 s
  | .bcs d8 => branchIf (s.p.c) d8 s
  | .beq d8 => branchIf (s.p.z) d8 s
  | .bne d8 => branchIf (!s.p.z) d8 s
  | .bmi d8 => branchIf (s.p.n) d8 s
  | .bpl d8 => branchIf (!s.p.n) d8 s
  | .bvc d8 => branchIf (!s.p.v) d8 s
  | .bvs d8 => branchIf (s.p.v) d8 s
  | .jmpAbs d16 => s.setPc d16
  | .jmpInd d16 => (s.touchWord d16).setPc (s.wordAt d16)
  | .jsr d16 => (s.pushWord (s.pc - 1)).setPc d16
  | .rts => s.popWord.setPc (s.topWord + 1)
  | .rti => s.returned
  | .clc => s.setP { s.p with c := false }
  | .sec => s.setP { s.p with c := true }
  | .cld => s.setP { s.p with d := false }
  | .sed => s.setP { s.p with d := true }
  | .cli => s.setP { s.p with i := false }
  | .sei => s.setP { s.p with i := true }
  | .clv => s.setP { s.p with v := false }
  | .cmpImm d8 => State.cmpA s d8
  | .cmpZp d8 => State.cmpA (s.afterOperand (.zp d8)) (s.operand (.zp d8))
  | .cmpZpx d8 => State.cmpA (s.afterOperand (.zpx d8)) (s.operand (.zpx d8))
  | .cmpAbs d16 => State.cmpA (s.afterOperand (.abs d16)) (s.operand (.abs d16))
  | .cmpAbx d16 => State.cmpA (s.afterOperand (.abx d16)) (s.operand (.abx d16))
  | .cmpAby d16 => State.cmpA (s.afterOperand (.aby d16)) (s.operand (.aby d16))
  | .cmpIzx d8 => State.cmpA (s.afterOperand (.izx d8)) (s.operand (.izx d8))
  | .cmpIzy d8 => State.cmpA (s.afterOperand (.izy d8)) (s.operand (.izy d8))
  | .cpxImm d8 => State.cmpX s d8
  | .cpxZp d8 => State.cmpX (s.afterOperand (.zp d8)) (s.operand (.zp d8))
  | .cpxAbs d16 => State.cmpX (s.afterOperand (.abs d16)) (s.operand (.abs d16))
  | .cpyImm d8 => State.cmpY s d8
  | .cpyZp d8 => State.cmpY (s.afterOperand (.zp d8)) (s.operand (.zp d8))
  | .cpyAbs d16 => State.cmpY (s.afterOperand (.abs d16)) (s.operand (.abs d16))
  | .pha => s.push s.a
  | .php => s.push (instructionValue s.p)
  | .pla => s.pop.loadA s.top
  | .plp => s.pop.setP (assign s.top)
  | .nop => s
  | .brk => (s.setPc (s.pc + 1)).entered (instructionValue s.p) irqVector

end Sys2Proof

namespace Sys2Proof.Machine

/-- An outcome from state `s` is the next state `t`, or a fault on an address no device claims. -/
def Runs (r : Host.Outcome State Fault Refusal) (s t : State) : Prop :=
  r = .next t ∨ ∃ a, r = .fault (.unmappedAccess a) ∧ s.claimed a = false

theorem runs_next (s t : State) : Runs (.next t) s t := .inl rfl

theorem runs_outcome {r : Except Fault State} {s t : State} (hn : ∀ u, r = .ok u → u = t)
    (hf : ∀ f, r = .error f → ∃ a, f = .unmappedAccess a ∧ s.claimed a = false) : Runs (outcome r) s t := by
  cases h : r with
  | ok u => exact .inl (congrArg Host.Outcome.next (hn u h))
  | error f =>
    obtain ⟨a, rfl, hc⟩ := hf f h
    exact .inr ⟨a, rfl, hc⟩

theorem runs_onValue (f : MemForm) (g : State → Byte → State) (s : State) :
    Runs (onValue f (readThen g) s) s (g (s.afterOperand f) (s.operand f)) :=
  runs_outcome (fun _ h => onValue_next (g := g) (outcome_next.mpr h)) fun _ h => onValue_fault (g := g) (outcome_fault.mpr h)

theorem runs_store {s : State} (f : MemForm) (reg : State → Byte) (hr : reg (s.afterMode f) = reg s) :
    Runs (onMemory f (fun r s => refWrite r (reg s) s) s) s ((s.afterMode f).store (s.effective f) (reg s)) :=
  runs_outcome (fun _ h => hr ▸ onMemory_store_next (reg := reg) (outcome_next.mpr h))
    fun _ h => onMemory_store_fault (reg := reg) (outcome_fault.mpr h)

theorem runs_modify (form : MemForm) (f : Byte → Byte) (g : Flags → Byte → Flags) (s : State) :
    Runs (onMemory form (modify f g) s) s (s.modified form f g) :=
  runs_outcome (fun _ h => onMemory_modify_next (f := f) (g := g) (outcome_next.mpr h))
    fun _ h => onMemory_modify_fault (f := f) (g := g) (outcome_fault.mpr h)

theorem runs_inc (form : MemForm) (s : State) : Runs (onMemory form opInc s) s (s.incAt form) :=
  runs_modify form (fun m => m + 1) (fun p m => logical p (m + 1)) s
theorem runs_dec (form : MemForm) (s : State) : Runs (onMemory form opDec s) s (s.decAt form) :=
  runs_modify form (fun m => m - 1) (fun p m => logical p (m - 1)) s
theorem runs_asl (form : MemForm) (s : State) : Runs (onMemory form opAsl s) s (s.aslAt form) := by
  rw [onMemory_asl]
  exact runs_modify form _ _ s
theorem runs_lsr (form : MemForm) (s : State) : Runs (onMemory form opLsr s) s (s.lsrAt form) := by
  rw [onMemory_lsr]
  exact runs_modify form _ _ s
theorem runs_rol (form : MemForm) (s : State) : Runs (onMemory form opRol s) s (s.rolAt form) := by
  rw [onMemory_rol]
  exact runs_modify form _ _ s
theorem runs_ror (form : MemForm) (s : State) : Runs (onMemory form opRor s) s (s.rorAt form) := by
  rw [onMemory_ror]
  exact runs_modify form _ _ s

theorem runs_push8 (b : Byte) (s : State) : Runs (outcome (push8 b s)) s (s.push b) :=
  runs_outcome (fun _ => push8_ok) fun _ => push8_error

/-- A pull, a change of the state that cannot fail. -/
theorem runs_pull8 (g : Byte → State → State) (s : State) :
    Runs (outcome (pull8 s >>= fun r => pure (g r.1 r.2))) s (g s.top s.pop) := by
  refine runs_outcome (fun u h => ?_) fun f h => ?_
  · cases hp : pull8 s with
    | error e => simp [hp, bind, Except.bind] at h
    | ok r =>
      obtain ⟨h1, h2⟩ := pull8_ok (b := r.1) (t := r.2) hp
      simp only [hp, bind, Except.bind, pure, Except.pure, Except.ok.injEq] at h
      rw [← h, h1, h2]
  · cases hp : pull8 s with
    | error e =>
      simp only [hp, bind, Except.bind, Except.error.injEq] at h
      exact h ▸ pull8_error hp
    | ok r => simp [hp, bind, Except.bind, pure, Except.pure] at h

theorem runs_pla (s : State) : Runs (outcome (opPla s)) s (s.pop.loadA s.top) := runs_pull8 (fun m t => t.loadA m) s
theorem runs_plp (s : State) : Runs (outcome (opPlp s)) s (s.pop.setP (assign s.top)) := runs_pull8 (fun m t => t.setP (assign m)) s

theorem runs_rts (s : State) : Runs (outcome (opRts s)) s (s.popWord.setPc (s.topWord + 1)) := by
  refine runs_outcome (fun u h => ?_) fun f h => ?_
  · cases hp : pull16 s with
    | error e => simp [opRts, hp, bind, Except.bind] at h
    | ok r =>
      obtain ⟨h1, h2⟩ := pull16_ok (w := r.1) (t := r.2) hp
      simp only [opRts, hp, bind, Except.bind, pure, Except.pure, Except.ok.injEq] at h
      rw [← h, h1, h2]
  · cases hp : pull16 s with
    | error e =>
      simp only [opRts, hp, bind, Except.bind, Except.error.injEq] at h
      exact h ▸ pull16_error hp
    | ok r => simp [opRts, hp, bind, Except.bind, pure, Except.pure] at h

theorem runs_rti (s : State) : Runs (outcome (returnFromEntry s)) s s.returned :=
  runs_outcome (fun _ => returnFromEntry_ok) fun _ => returnFromEntry_error

theorem runs_brk (s : State) : Runs (outcome (opBrk s)) s ((s.setPc (s.pc + 1)).entered (instructionValue s.p) irqVector) :=
  runs_outcome (fun _ h => enter_ok h) fun _ h => enter_error (s := s.setPc (s.pc + 1)) h

theorem runs_jsr (d16 : Word) (s : State) : Runs (outcome (opJsr d16 s)) s ((s.pushWord (s.pc - 1)).setPc d16) := by
  refine runs_outcome (fun u h => ?_) fun f h => ?_
  · cases hp : push16 (s.pc - 1) s with
    | error e => simp only [opJsr, hp, bind, Except.bind, reduceCtorEq] at h
    | ok r =>
      simp only [opJsr, hp, bind, Except.bind, pure, Except.pure, Except.ok.injEq] at h
      rw [← h, push16_ok hp]
  · cases hp : push16 (s.pc - 1) s with
    | error e =>
      simp only [opJsr, hp, bind, Except.bind, Except.error.injEq] at h
      exact h ▸ push16_error hp
    | ok r => simp only [opJsr, hp, bind, Except.bind, pure, Except.pure, reduceCtorEq] at h

theorem runs_jmpInd (d16 : Word) (s : State) : Runs (outcome (opJmpInd d16 s)) s ((s.touchWord d16).setPc (s.wordAt d16)) := by
  refine runs_outcome (fun u h => ?_) fun f h => ?_
  · cases hp : readWord d16 s with
    | error e => simp [opJmpInd, indTarget, hp, bind, Except.bind] at h
    | ok r =>
      obtain ⟨h1, h2⟩ := readWord_ok (w := r.1) (t := r.2) hp
      simp only [opJmpInd, indTarget, hp, bind, Except.bind, pure, Except.pure, Except.ok.injEq] at h
      rw [← h, h1, h2]
  · cases hp : readWord d16 s with
    | error e =>
      simp only [opJmpInd, indTarget, hp, bind, Except.bind, Except.error.injEq] at h
      exact h ▸ readWord_error hp
    | ok r => simp [opJmpInd, indTarget, hp, bind, Except.bind, pure, Except.pure] at h

/-- Everything an instruction can do. -/
theorem exec_runs (i : Instr) (s : State) : Runs (exec i s) s (i.result s) := by
  cases i with
  | ldaImm d8 => exact runs_next _ _
  | ldaZp d8 => exact runs_onValue (.zp d8) State.loadA s
  | ldaZpx d8 => exact runs_onValue (.zpx d8) State.loadA s
  | ldaAbs d16 => exact runs_onValue (.abs d16) State.loadA s
  | ldaAbx d16 => exact runs_onValue (.abx d16) State.loadA s
  | ldaAby d16 => exact runs_onValue (.aby d16) State.loadA s
  | ldaIzx d8 => exact runs_onValue (.izx d8) State.loadA s
  | ldaIzy d8 => exact runs_onValue (.izy d8) State.loadA s
  | ldxImm d8 => exact runs_next _ _
  | ldxZp d8 => exact runs_onValue (.zp d8) State.loadX s
  | ldxZpy d8 => exact runs_onValue (.zpy d8) State.loadX s
  | ldxAbs d16 => exact runs_onValue (.abs d16) State.loadX s
  | ldxAby d16 => exact runs_onValue (.aby d16) State.loadX s
  | ldyImm d8 => exact runs_next _ _
  | ldyZp d8 => exact runs_onValue (.zp d8) State.loadY s
  | ldyZpx d8 => exact runs_onValue (.zpx d8) State.loadY s
  | ldyAbs d16 => exact runs_onValue (.abs d16) State.loadY s
  | ldyAbx d16 => exact runs_onValue (.abx d16) State.loadY s
  | staZp d8 => exact runs_store (.zp d8) State.a (by simp)
  | staZpx d8 => exact runs_store (.zpx d8) State.a (by simp)
  | staAbs d16 => exact runs_store (.abs d16) State.a (by simp)
  | staAbx d16 => exact runs_store (.abx d16) State.a (by simp)
  | staAby d16 => exact runs_store (.aby d16) State.a (by simp)
  | staIzx d8 => exact runs_store (.izx d8) State.a (by simp)
  | staIzy d8 => exact runs_store (.izy d8) State.a (by simp)
  | stxZp d8 => exact runs_store (.zp d8) State.x (by simp)
  | stxZpy d8 => exact runs_store (.zpy d8) State.x (by simp)
  | stxAbs d16 => exact runs_store (.abs d16) State.x (by simp)
  | styZp d8 => exact runs_store (.zp d8) State.y (by simp)
  | styZpx d8 => exact runs_store (.zpx d8) State.y (by simp)
  | styAbs d16 => exact runs_store (.abs d16) State.y (by simp)
  | tax => exact runs_next _ _
  | tay => exact runs_next _ _
  | txa => exact runs_next _ _
  | tya => exact runs_next _ _
  | txs => exact runs_next _ _
  | tsx => exact runs_next _ _
  | adcImm d8 => exact runs_next _ _
  | adcZp d8 => exact runs_onValue (.zp d8) State.addToA s
  | adcZpx d8 => exact runs_onValue (.zpx d8) State.addToA s
  | adcAbs d16 => exact runs_onValue (.abs d16) State.addToA s
  | adcAbx d16 => exact runs_onValue (.abx d16) State.addToA s
  | adcAby d16 => exact runs_onValue (.aby d16) State.addToA s
  | adcIzx d8 => exact runs_onValue (.izx d8) State.addToA s
  | adcIzy d8 => exact runs_onValue (.izy d8) State.addToA s
  | sbcImm d8 => exact runs_next _ _
  | sbcZp d8 => exact runs_onValue (.zp d8) State.subFromA s
  | sbcZpx d8 => exact runs_onValue (.zpx d8) State.subFromA s
  | sbcAbs d16 => exact runs_onValue (.abs d16) State.subFromA s
  | sbcAbx d16 => exact runs_onValue (.abx d16) State.subFromA s
  | sbcAby d16 => exact runs_onValue (.aby d16) State.subFromA s
  | sbcIzx d8 => exact runs_onValue (.izx d8) State.subFromA s
  | sbcIzy d8 => exact runs_onValue (.izy d8) State.subFromA s
  | incZp d8 => exact runs_inc (.zp d8) s
  | incZpx d8 => exact runs_inc (.zpx d8) s
  | incAbs d16 => exact runs_inc (.abs d16) s
  | incAbx d16 => exact runs_inc (.abx d16) s
  | decZp d8 => exact runs_dec (.zp d8) s
  | decZpx d8 => exact runs_dec (.zpx d8) s
  | decAbs d16 => exact runs_dec (.abs d16) s
  | decAbx d16 => exact runs_dec (.abx d16) s
  | inx => exact runs_next _ _
  | iny => exact runs_next _ _
  | dex => exact runs_next _ _
  | dey => exact runs_next _ _
  | andImm d8 => exact runs_next _ _
  | andZp d8 => exact runs_onValue (.zp d8) State.andA s
  | andZpx d8 => exact runs_onValue (.zpx d8) State.andA s
  | andAbs d16 => exact runs_onValue (.abs d16) State.andA s
  | andAbx d16 => exact runs_onValue (.abx d16) State.andA s
  | andAby d16 => exact runs_onValue (.aby d16) State.andA s
  | andIzx d8 => exact runs_onValue (.izx d8) State.andA s
  | andIzy d8 => exact runs_onValue (.izy d8) State.andA s
  | oraImm d8 => exact runs_next _ _
  | oraZp d8 => exact runs_onValue (.zp d8) State.oraA s
  | oraZpx d8 => exact runs_onValue (.zpx d8) State.oraA s
  | oraAbs d16 => exact runs_onValue (.abs d16) State.oraA s
  | oraAbx d16 => exact runs_onValue (.abx d16) State.oraA s
  | oraAby d16 => exact runs_onValue (.aby d16) State.oraA s
  | oraIzx d8 => exact runs_onValue (.izx d8) State.oraA s
  | oraIzy d8 => exact runs_onValue (.izy d8) State.oraA s
  | eorImm d8 => exact runs_next _ _
  | eorZp d8 => exact runs_onValue (.zp d8) State.eorA s
  | eorZpx d8 => exact runs_onValue (.zpx d8) State.eorA s
  | eorAbs d16 => exact runs_onValue (.abs d16) State.eorA s
  | eorAbx d16 => exact runs_onValue (.abx d16) State.eorA s
  | eorAby d16 => exact runs_onValue (.aby d16) State.eorA s
  | eorIzx d8 => exact runs_onValue (.izx d8) State.eorA s
  | eorIzy d8 => exact runs_onValue (.izy d8) State.eorA s
  | aslAcc => exact runs_next _ _
  | aslZp d8 => exact runs_asl (.zp d8) s
  | aslZpx d8 => exact runs_asl (.zpx d8) s
  | aslAbs d16 => exact runs_asl (.abs d16) s
  | aslAbx d16 => exact runs_asl (.abx d16) s
  | lsrAcc => exact runs_next _ _
  | lsrZp d8 => exact runs_lsr (.zp d8) s
  | lsrZpx d8 => exact runs_lsr (.zpx d8) s
  | lsrAbs d16 => exact runs_lsr (.abs d16) s
  | lsrAbx d16 => exact runs_lsr (.abx d16) s
  | rolAcc => exact runs_next _ _
  | rolZp d8 => exact runs_rol (.zp d8) s
  | rolZpx d8 => exact runs_rol (.zpx d8) s
  | rolAbs d16 => exact runs_rol (.abs d16) s
  | rolAbx d16 => exact runs_rol (.abx d16) s
  | rorAcc => exact runs_next _ _
  | rorZp d8 => exact runs_ror (.zp d8) s
  | rorZpx d8 => exact runs_ror (.zpx d8) s
  | rorAbs d16 => exact runs_ror (.abs d16) s
  | rorAbx d16 => exact runs_ror (.abx d16) s
  | bitZp d8 => exact runs_onValue (.zp d8) State.bitA s
  | bitAbs d16 => exact runs_onValue (.abs d16) State.bitA s
  | bcc d8 => exact runs_next _ _
  | bcs d8 => exact runs_next _ _
  | beq d8 => exact runs_next _ _
  | bne d8 => exact runs_next _ _
  | bmi d8 => exact runs_next _ _
  | bpl d8 => exact runs_next _ _
  | bvc d8 => exact runs_next _ _
  | bvs d8 => exact runs_next _ _
  | jmpAbs d16 => exact runs_next _ _
  | jmpInd d16 => exact runs_jmpInd d16 s
  | jsr d16 => exact runs_jsr d16 s
  | rts => exact runs_rts s
  | rti => exact runs_rti s
  | clc => exact runs_next _ _
  | sec => exact runs_next _ _
  | cld => exact runs_next _ _
  | sed => exact runs_next _ _
  | cli => exact runs_next _ _
  | sei => exact runs_next _ _
  | clv => exact runs_next _ _
  | cmpImm d8 => exact runs_next _ _
  | cmpZp d8 => exact runs_onValue (.zp d8) State.cmpA s
  | cmpZpx d8 => exact runs_onValue (.zpx d8) State.cmpA s
  | cmpAbs d16 => exact runs_onValue (.abs d16) State.cmpA s
  | cmpAbx d16 => exact runs_onValue (.abx d16) State.cmpA s
  | cmpAby d16 => exact runs_onValue (.aby d16) State.cmpA s
  | cmpIzx d8 => exact runs_onValue (.izx d8) State.cmpA s
  | cmpIzy d8 => exact runs_onValue (.izy d8) State.cmpA s
  | cpxImm d8 => exact runs_next _ _
  | cpxZp d8 => exact runs_onValue (.zp d8) State.cmpX s
  | cpxAbs d16 => exact runs_onValue (.abs d16) State.cmpX s
  | cpyImm d8 => exact runs_next _ _
  | cpyZp d8 => exact runs_onValue (.zp d8) State.cmpY s
  | cpyAbs d16 => exact runs_onValue (.abs d16) State.cmpY s
  | pha => exact runs_push8 _ s
  | php => exact runs_push8 _ s
  | pla => exact runs_pla s
  | plp => exact runs_plp s
  | nop => exact runs_next _ _
  | brk => exact runs_brk s

theorem exec_next {i : Instr} {s t : State} (h : exec i s = .next t) : t = i.result s := by
  rcases exec_runs i s with h1 | ⟨a, h1, -⟩
  · exact Host.Outcome.next.inj (h.symm.trans h1)
  · simp [h1] at h

theorem exec_of_covered {s : State} (hc : s.covered) (i : Instr) : exec i s = .next (i.result s) := by
  rcases exec_runs i s with h1 | ⟨a, -, h1⟩
  · exact h1
  · simp [hc a] at h1

end Sys2Proof.Machine
end

