-- ==== Sys2Proof/Laws/PerInstr.lean ====
section
/-! SUPPORT. The per-instruction family EncodedLength: the encoder gives every instruction the length its mode has (30_encoding.md
R101, R103). -/

namespace Sys2Proof

/-- The encoding of an instruction has as many bytes as its mode says. -/
def Laws.EncodedLength.Statement (i : Instr) : Prop := (encode i).length = i.mode.length

theorem Laws.EncodedLength.ldaImm (d8 : Byte) : Laws.EncodedLength.Statement (.ldaImm d8) := rfl
theorem Laws.EncodedLength.ldaZp (d8 : Byte) : Laws.EncodedLength.Statement (.ldaZp d8) := rfl
theorem Laws.EncodedLength.ldaZpx (d8 : Byte) : Laws.EncodedLength.Statement (.ldaZpx d8) := rfl
theorem Laws.EncodedLength.ldaAbs (d16 : Word) : Laws.EncodedLength.Statement (.ldaAbs d16) := rfl
theorem Laws.EncodedLength.ldaAbx (d16 : Word) : Laws.EncodedLength.Statement (.ldaAbx d16) := rfl
theorem Laws.EncodedLength.ldaAby (d16 : Word) : Laws.EncodedLength.Statement (.ldaAby d16) := rfl
theorem Laws.EncodedLength.ldaIzx (d8 : Byte) : Laws.EncodedLength.Statement (.ldaIzx d8) := rfl
theorem Laws.EncodedLength.ldaIzy (d8 : Byte) : Laws.EncodedLength.Statement (.ldaIzy d8) := rfl
theorem Laws.EncodedLength.ldxImm (d8 : Byte) : Laws.EncodedLength.Statement (.ldxImm d8) := rfl
theorem Laws.EncodedLength.ldxZp (d8 : Byte) : Laws.EncodedLength.Statement (.ldxZp d8) := rfl
theorem Laws.EncodedLength.ldxZpy (d8 : Byte) : Laws.EncodedLength.Statement (.ldxZpy d8) := rfl
theorem Laws.EncodedLength.ldxAbs (d16 : Word) : Laws.EncodedLength.Statement (.ldxAbs d16) := rfl
theorem Laws.EncodedLength.ldxAby (d16 : Word) : Laws.EncodedLength.Statement (.ldxAby d16) := rfl
theorem Laws.EncodedLength.ldyImm (d8 : Byte) : Laws.EncodedLength.Statement (.ldyImm d8) := rfl
theorem Laws.EncodedLength.ldyZp (d8 : Byte) : Laws.EncodedLength.Statement (.ldyZp d8) := rfl
theorem Laws.EncodedLength.ldyZpx (d8 : Byte) : Laws.EncodedLength.Statement (.ldyZpx d8) := rfl
theorem Laws.EncodedLength.ldyAbs (d16 : Word) : Laws.EncodedLength.Statement (.ldyAbs d16) := rfl
theorem Laws.EncodedLength.ldyAbx (d16 : Word) : Laws.EncodedLength.Statement (.ldyAbx d16) := rfl
theorem Laws.EncodedLength.staZp (d8 : Byte) : Laws.EncodedLength.Statement (.staZp d8) := rfl
theorem Laws.EncodedLength.staZpx (d8 : Byte) : Laws.EncodedLength.Statement (.staZpx d8) := rfl
theorem Laws.EncodedLength.staAbs (d16 : Word) : Laws.EncodedLength.Statement (.staAbs d16) := rfl
theorem Laws.EncodedLength.staAbx (d16 : Word) : Laws.EncodedLength.Statement (.staAbx d16) := rfl
theorem Laws.EncodedLength.staAby (d16 : Word) : Laws.EncodedLength.Statement (.staAby d16) := rfl
theorem Laws.EncodedLength.staIzx (d8 : Byte) : Laws.EncodedLength.Statement (.staIzx d8) := rfl
theorem Laws.EncodedLength.staIzy (d8 : Byte) : Laws.EncodedLength.Statement (.staIzy d8) := rfl
theorem Laws.EncodedLength.stxZp (d8 : Byte) : Laws.EncodedLength.Statement (.stxZp d8) := rfl
theorem Laws.EncodedLength.stxZpy (d8 : Byte) : Laws.EncodedLength.Statement (.stxZpy d8) := rfl
theorem Laws.EncodedLength.stxAbs (d16 : Word) : Laws.EncodedLength.Statement (.stxAbs d16) := rfl
theorem Laws.EncodedLength.styZp (d8 : Byte) : Laws.EncodedLength.Statement (.styZp d8) := rfl
theorem Laws.EncodedLength.styZpx (d8 : Byte) : Laws.EncodedLength.Statement (.styZpx d8) := rfl
theorem Laws.EncodedLength.styAbs (d16 : Word) : Laws.EncodedLength.Statement (.styAbs d16) := rfl
theorem Laws.EncodedLength.tax : Laws.EncodedLength.Statement .tax := rfl
theorem Laws.EncodedLength.tay : Laws.EncodedLength.Statement .tay := rfl
theorem Laws.EncodedLength.txa : Laws.EncodedLength.Statement .txa := rfl
theorem Laws.EncodedLength.tya : Laws.EncodedLength.Statement .tya := rfl
theorem Laws.EncodedLength.txs : Laws.EncodedLength.Statement .txs := rfl
theorem Laws.EncodedLength.tsx : Laws.EncodedLength.Statement .tsx := rfl
theorem Laws.EncodedLength.adcImm (d8 : Byte) : Laws.EncodedLength.Statement (.adcImm d8) := rfl
theorem Laws.EncodedLength.adcZp (d8 : Byte) : Laws.EncodedLength.Statement (.adcZp d8) := rfl
theorem Laws.EncodedLength.adcZpx (d8 : Byte) : Laws.EncodedLength.Statement (.adcZpx d8) := rfl
theorem Laws.EncodedLength.adcAbs (d16 : Word) : Laws.EncodedLength.Statement (.adcAbs d16) := rfl
theorem Laws.EncodedLength.adcAbx (d16 : Word) : Laws.EncodedLength.Statement (.adcAbx d16) := rfl
theorem Laws.EncodedLength.adcAby (d16 : Word) : Laws.EncodedLength.Statement (.adcAby d16) := rfl
theorem Laws.EncodedLength.adcIzx (d8 : Byte) : Laws.EncodedLength.Statement (.adcIzx d8) := rfl
theorem Laws.EncodedLength.adcIzy (d8 : Byte) : Laws.EncodedLength.Statement (.adcIzy d8) := rfl
theorem Laws.EncodedLength.sbcImm (d8 : Byte) : Laws.EncodedLength.Statement (.sbcImm d8) := rfl
theorem Laws.EncodedLength.sbcZp (d8 : Byte) : Laws.EncodedLength.Statement (.sbcZp d8) := rfl
theorem Laws.EncodedLength.sbcZpx (d8 : Byte) : Laws.EncodedLength.Statement (.sbcZpx d8) := rfl
theorem Laws.EncodedLength.sbcAbs (d16 : Word) : Laws.EncodedLength.Statement (.sbcAbs d16) := rfl
theorem Laws.EncodedLength.sbcAbx (d16 : Word) : Laws.EncodedLength.Statement (.sbcAbx d16) := rfl
theorem Laws.EncodedLength.sbcAby (d16 : Word) : Laws.EncodedLength.Statement (.sbcAby d16) := rfl
theorem Laws.EncodedLength.sbcIzx (d8 : Byte) : Laws.EncodedLength.Statement (.sbcIzx d8) := rfl
theorem Laws.EncodedLength.sbcIzy (d8 : Byte) : Laws.EncodedLength.Statement (.sbcIzy d8) := rfl
theorem Laws.EncodedLength.incZp (d8 : Byte) : Laws.EncodedLength.Statement (.incZp d8) := rfl
theorem Laws.EncodedLength.incZpx (d8 : Byte) : Laws.EncodedLength.Statement (.incZpx d8) := rfl
theorem Laws.EncodedLength.incAbs (d16 : Word) : Laws.EncodedLength.Statement (.incAbs d16) := rfl
theorem Laws.EncodedLength.incAbx (d16 : Word) : Laws.EncodedLength.Statement (.incAbx d16) := rfl
theorem Laws.EncodedLength.decZp (d8 : Byte) : Laws.EncodedLength.Statement (.decZp d8) := rfl
theorem Laws.EncodedLength.decZpx (d8 : Byte) : Laws.EncodedLength.Statement (.decZpx d8) := rfl
theorem Laws.EncodedLength.decAbs (d16 : Word) : Laws.EncodedLength.Statement (.decAbs d16) := rfl
theorem Laws.EncodedLength.decAbx (d16 : Word) : Laws.EncodedLength.Statement (.decAbx d16) := rfl
theorem Laws.EncodedLength.inx : Laws.EncodedLength.Statement .inx := rfl
theorem Laws.EncodedLength.iny : Laws.EncodedLength.Statement .iny := rfl
theorem Laws.EncodedLength.dex : Laws.EncodedLength.Statement .dex := rfl
theorem Laws.EncodedLength.dey : Laws.EncodedLength.Statement .dey := rfl
theorem Laws.EncodedLength.andImm (d8 : Byte) : Laws.EncodedLength.Statement (.andImm d8) := rfl
theorem Laws.EncodedLength.andZp (d8 : Byte) : Laws.EncodedLength.Statement (.andZp d8) := rfl
theorem Laws.EncodedLength.andZpx (d8 : Byte) : Laws.EncodedLength.Statement (.andZpx d8) := rfl
theorem Laws.EncodedLength.andAbs (d16 : Word) : Laws.EncodedLength.Statement (.andAbs d16) := rfl
theorem Laws.EncodedLength.andAbx (d16 : Word) : Laws.EncodedLength.Statement (.andAbx d16) := rfl
theorem Laws.EncodedLength.andAby (d16 : Word) : Laws.EncodedLength.Statement (.andAby d16) := rfl
theorem Laws.EncodedLength.andIzx (d8 : Byte) : Laws.EncodedLength.Statement (.andIzx d8) := rfl
theorem Laws.EncodedLength.andIzy (d8 : Byte) : Laws.EncodedLength.Statement (.andIzy d8) := rfl
theorem Laws.EncodedLength.oraImm (d8 : Byte) : Laws.EncodedLength.Statement (.oraImm d8) := rfl
theorem Laws.EncodedLength.oraZp (d8 : Byte) : Laws.EncodedLength.Statement (.oraZp d8) := rfl
theorem Laws.EncodedLength.oraZpx (d8 : Byte) : Laws.EncodedLength.Statement (.oraZpx d8) := rfl
theorem Laws.EncodedLength.oraAbs (d16 : Word) : Laws.EncodedLength.Statement (.oraAbs d16) := rfl
theorem Laws.EncodedLength.oraAbx (d16 : Word) : Laws.EncodedLength.Statement (.oraAbx d16) := rfl
theorem Laws.EncodedLength.oraAby (d16 : Word) : Laws.EncodedLength.Statement (.oraAby d16) := rfl
theorem Laws.EncodedLength.oraIzx (d8 : Byte) : Laws.EncodedLength.Statement (.oraIzx d8) := rfl
theorem Laws.EncodedLength.oraIzy (d8 : Byte) : Laws.EncodedLength.Statement (.oraIzy d8) := rfl
theorem Laws.EncodedLength.eorImm (d8 : Byte) : Laws.EncodedLength.Statement (.eorImm d8) := rfl
theorem Laws.EncodedLength.eorZp (d8 : Byte) : Laws.EncodedLength.Statement (.eorZp d8) := rfl
theorem Laws.EncodedLength.eorZpx (d8 : Byte) : Laws.EncodedLength.Statement (.eorZpx d8) := rfl
theorem Laws.EncodedLength.eorAbs (d16 : Word) : Laws.EncodedLength.Statement (.eorAbs d16) := rfl
theorem Laws.EncodedLength.eorAbx (d16 : Word) : Laws.EncodedLength.Statement (.eorAbx d16) := rfl
theorem Laws.EncodedLength.eorAby (d16 : Word) : Laws.EncodedLength.Statement (.eorAby d16) := rfl
theorem Laws.EncodedLength.eorIzx (d8 : Byte) : Laws.EncodedLength.Statement (.eorIzx d8) := rfl
theorem Laws.EncodedLength.eorIzy (d8 : Byte) : Laws.EncodedLength.Statement (.eorIzy d8) := rfl
theorem Laws.EncodedLength.aslAcc : Laws.EncodedLength.Statement .aslAcc := rfl
theorem Laws.EncodedLength.aslZp (d8 : Byte) : Laws.EncodedLength.Statement (.aslZp d8) := rfl
theorem Laws.EncodedLength.aslZpx (d8 : Byte) : Laws.EncodedLength.Statement (.aslZpx d8) := rfl
theorem Laws.EncodedLength.aslAbs (d16 : Word) : Laws.EncodedLength.Statement (.aslAbs d16) := rfl
theorem Laws.EncodedLength.aslAbx (d16 : Word) : Laws.EncodedLength.Statement (.aslAbx d16) := rfl
theorem Laws.EncodedLength.lsrAcc : Laws.EncodedLength.Statement .lsrAcc := rfl
theorem Laws.EncodedLength.lsrZp (d8 : Byte) : Laws.EncodedLength.Statement (.lsrZp d8) := rfl
theorem Laws.EncodedLength.lsrZpx (d8 : Byte) : Laws.EncodedLength.Statement (.lsrZpx d8) := rfl
theorem Laws.EncodedLength.lsrAbs (d16 : Word) : Laws.EncodedLength.Statement (.lsrAbs d16) := rfl
theorem Laws.EncodedLength.lsrAbx (d16 : Word) : Laws.EncodedLength.Statement (.lsrAbx d16) := rfl
theorem Laws.EncodedLength.rolAcc : Laws.EncodedLength.Statement .rolAcc := rfl
theorem Laws.EncodedLength.rolZp (d8 : Byte) : Laws.EncodedLength.Statement (.rolZp d8) := rfl
theorem Laws.EncodedLength.rolZpx (d8 : Byte) : Laws.EncodedLength.Statement (.rolZpx d8) := rfl
theorem Laws.EncodedLength.rolAbs (d16 : Word) : Laws.EncodedLength.Statement (.rolAbs d16) := rfl
theorem Laws.EncodedLength.rolAbx (d16 : Word) : Laws.EncodedLength.Statement (.rolAbx d16) := rfl
theorem Laws.EncodedLength.rorAcc : Laws.EncodedLength.Statement .rorAcc := rfl
theorem Laws.EncodedLength.rorZp (d8 : Byte) : Laws.EncodedLength.Statement (.rorZp d8) := rfl
theorem Laws.EncodedLength.rorZpx (d8 : Byte) : Laws.EncodedLength.Statement (.rorZpx d8) := rfl
theorem Laws.EncodedLength.rorAbs (d16 : Word) : Laws.EncodedLength.Statement (.rorAbs d16) := rfl
theorem Laws.EncodedLength.rorAbx (d16 : Word) : Laws.EncodedLength.Statement (.rorAbx d16) := rfl
theorem Laws.EncodedLength.bitZp (d8 : Byte) : Laws.EncodedLength.Statement (.bitZp d8) := rfl
theorem Laws.EncodedLength.bitAbs (d16 : Word) : Laws.EncodedLength.Statement (.bitAbs d16) := rfl
theorem Laws.EncodedLength.bcc (d8 : Byte) : Laws.EncodedLength.Statement (.bcc d8) := rfl
theorem Laws.EncodedLength.bcs (d8 : Byte) : Laws.EncodedLength.Statement (.bcs d8) := rfl
theorem Laws.EncodedLength.beq (d8 : Byte) : Laws.EncodedLength.Statement (.beq d8) := rfl
theorem Laws.EncodedLength.bne (d8 : Byte) : Laws.EncodedLength.Statement (.bne d8) := rfl
theorem Laws.EncodedLength.bmi (d8 : Byte) : Laws.EncodedLength.Statement (.bmi d8) := rfl
theorem Laws.EncodedLength.bpl (d8 : Byte) : Laws.EncodedLength.Statement (.bpl d8) := rfl
theorem Laws.EncodedLength.bvc (d8 : Byte) : Laws.EncodedLength.Statement (.bvc d8) := rfl
theorem Laws.EncodedLength.bvs (d8 : Byte) : Laws.EncodedLength.Statement (.bvs d8) := rfl
theorem Laws.EncodedLength.jmpAbs (d16 : Word) : Laws.EncodedLength.Statement (.jmpAbs d16) := rfl
theorem Laws.EncodedLength.jmpInd (d16 : Word) : Laws.EncodedLength.Statement (.jmpInd d16) := rfl
theorem Laws.EncodedLength.jsr (d16 : Word) : Laws.EncodedLength.Statement (.jsr d16) := rfl
theorem Laws.EncodedLength.rts : Laws.EncodedLength.Statement .rts := rfl
theorem Laws.EncodedLength.rti : Laws.EncodedLength.Statement .rti := rfl
theorem Laws.EncodedLength.clc : Laws.EncodedLength.Statement .clc := rfl
theorem Laws.EncodedLength.sec : Laws.EncodedLength.Statement .sec := rfl
theorem Laws.EncodedLength.cld : Laws.EncodedLength.Statement .cld := rfl
theorem Laws.EncodedLength.sed : Laws.EncodedLength.Statement .sed := rfl
theorem Laws.EncodedLength.cli : Laws.EncodedLength.Statement .cli := rfl
theorem Laws.EncodedLength.sei : Laws.EncodedLength.Statement .sei := rfl
theorem Laws.EncodedLength.clv : Laws.EncodedLength.Statement .clv := rfl
theorem Laws.EncodedLength.cmpImm (d8 : Byte) : Laws.EncodedLength.Statement (.cmpImm d8) := rfl
theorem Laws.EncodedLength.cmpZp (d8 : Byte) : Laws.EncodedLength.Statement (.cmpZp d8) := rfl
theorem Laws.EncodedLength.cmpZpx (d8 : Byte) : Laws.EncodedLength.Statement (.cmpZpx d8) := rfl
theorem Laws.EncodedLength.cmpAbs (d16 : Word) : Laws.EncodedLength.Statement (.cmpAbs d16) := rfl
theorem Laws.EncodedLength.cmpAbx (d16 : Word) : Laws.EncodedLength.Statement (.cmpAbx d16) := rfl
theorem Laws.EncodedLength.cmpAby (d16 : Word) : Laws.EncodedLength.Statement (.cmpAby d16) := rfl
theorem Laws.EncodedLength.cmpIzx (d8 : Byte) : Laws.EncodedLength.Statement (.cmpIzx d8) := rfl
theorem Laws.EncodedLength.cmpIzy (d8 : Byte) : Laws.EncodedLength.Statement (.cmpIzy d8) := rfl
theorem Laws.EncodedLength.cpxImm (d8 : Byte) : Laws.EncodedLength.Statement (.cpxImm d8) := rfl
theorem Laws.EncodedLength.cpxZp (d8 : Byte) : Laws.EncodedLength.Statement (.cpxZp d8) := rfl
theorem Laws.EncodedLength.cpxAbs (d16 : Word) : Laws.EncodedLength.Statement (.cpxAbs d16) := rfl
theorem Laws.EncodedLength.cpyImm (d8 : Byte) : Laws.EncodedLength.Statement (.cpyImm d8) := rfl
theorem Laws.EncodedLength.cpyZp (d8 : Byte) : Laws.EncodedLength.Statement (.cpyZp d8) := rfl
theorem Laws.EncodedLength.cpyAbs (d16 : Word) : Laws.EncodedLength.Statement (.cpyAbs d16) := rfl
theorem Laws.EncodedLength.pha : Laws.EncodedLength.Statement .pha := rfl
theorem Laws.EncodedLength.php : Laws.EncodedLength.Statement .php := rfl
theorem Laws.EncodedLength.pla : Laws.EncodedLength.Statement .pla := rfl
theorem Laws.EncodedLength.plp : Laws.EncodedLength.Statement .plp := rfl
theorem Laws.EncodedLength.nop : Laws.EncodedLength.Statement .nop := rfl
theorem Laws.EncodedLength.brk : Laws.EncodedLength.Statement .brk := rfl

end Sys2Proof
end

