-- ==== Sys2Proof/Machine/Assembly.lean ====
section
/-! DEFINITION. The assembler notation of an instruction (30_encoding.md R111); it has no effect on the machine. -/

namespace Sys2Proof.Machine

/-- One hexadecimal digit. -/
def hexDigit (n : Nat) : Char :=
  ['0', '1', '2', '3', '4', '5', '6', '7', '8', '9', 'A', 'B', 'C', 'D', 'E', 'F'].getD n '0'

/-- `$nn`. -/
def hex8 (b : Byte) : List Char := ['$', hexDigit (b.toNat / 16), hexDigit (b.toNat % 16)]

/-- `$nnnn`. -/
def hex16 (w : Word) : List Char :=
  ['$', hexDigit (w.toNat / 4096), hexDigit (w.toNat / 256 % 16), hexDigit (w.toNat / 16 % 16), hexDigit (w.toNat % 16)]

/-- The three letters of a mnemonic (R105). -/
def mnemonicText : Mnemonic → List Char
  | .lda => ['L', 'D', 'A'] | .ldx => ['L', 'D', 'X']
  | .ldy => ['L', 'D', 'Y'] | .sta => ['S', 'T', 'A']
  | .stx => ['S', 'T', 'X'] | .sty => ['S', 'T', 'Y']
  | .tax => ['T', 'A', 'X'] | .tay => ['T', 'A', 'Y']
  | .txa => ['T', 'X', 'A'] | .tya => ['T', 'Y', 'A']
  | .txs => ['T', 'X', 'S'] | .tsx => ['T', 'S', 'X']
  | .adc => ['A', 'D', 'C'] | .sbc => ['S', 'B', 'C']
  | .inc => ['I', 'N', 'C'] | .dec => ['D', 'E', 'C']
  | .inx => ['I', 'N', 'X'] | .iny => ['I', 'N', 'Y']
  | .dex => ['D', 'E', 'X'] | .dey => ['D', 'E', 'Y']
  | .and => ['A', 'N', 'D'] | .ora => ['O', 'R', 'A']
  | .eor => ['E', 'O', 'R'] | .asl => ['A', 'S', 'L']
  | .lsr => ['L', 'S', 'R'] | .rol => ['R', 'O', 'L']
  | .ror => ['R', 'O', 'R'] | .bit => ['B', 'I', 'T']
  | .bcc => ['B', 'C', 'C'] | .bcs => ['B', 'C', 'S']
  | .beq => ['B', 'E', 'Q'] | .bne => ['B', 'N', 'E']
  | .bmi => ['B', 'M', 'I'] | .bpl => ['B', 'P', 'L']
  | .bvc => ['B', 'V', 'C'] | .bvs => ['B', 'V', 'S']
  | .jmp => ['J', 'M', 'P'] | .jsr => ['J', 'S', 'R']
  | .rts => ['R', 'T', 'S'] | .rti => ['R', 'T', 'I']
  | .clc => ['C', 'L', 'C'] | .sec => ['S', 'E', 'C']
  | .cld => ['C', 'L', 'D'] | .sed => ['S', 'E', 'D']
  | .cli => ['C', 'L', 'I'] | .sei => ['S', 'E', 'I']
  | .clv => ['C', 'L', 'V'] | .cmp => ['C', 'M', 'P']
  | .cpx => ['C', 'P', 'X'] | .cpy => ['C', 'P', 'Y']
  | .pha => ['P', 'H', 'A'] | .php => ['P', 'H', 'P']
  | .pla => ['P', 'L', 'A'] | .plp => ['P', 'L', 'P']
  | .nop => ['N', 'O', 'P'] | .brk => ['B', 'R', 'K']

/-- The operand text of a mode (R111); a branch shows its target, computed from the address of its opcode (R149). -/
def operandText (pc0 : Word) (i : Instr) : List Char :=
  let b := i.operand8.getD 0
  let w := i.operand16.getD 0
  match i.mode with
  | .imp => []
  | .acc => [' ', 'A']
  | .imm => [' ', '#'] ++ hex8 b
  | .zp => ' ' :: hex8 b
  | .zpx => ' ' :: hex8 b ++ [',', 'X']
  | .zpy => ' ' :: hex8 b ++ [',', 'Y']
  | .abs => ' ' :: hex16 w
  | .abx => ' ' :: hex16 w ++ [',', 'X']
  | .aby => ' ' :: hex16 w ++ [',', 'Y']
  | .ind => [' ', '('] ++ hex16 w ++ [')']
  | .izx => [' ', '('] ++ hex8 b ++ [',', 'X', ')']
  | .izy => [' ', '('] ++ hex8 b ++ [')', ',', 'Y']
  | .rel => ' ' :: hex16 (pc0 + 2 + sext b)

/-- The assembler line of an instruction at an address. -/
def assemblyText (pc0 : Word) (i : Instr) : List Char := mnemonicText i.mnemonic ++ operandText pc0 i

end Sys2Proof.Machine
end

