-- ==== Sys2Proof/Tests/Slice0.lean ====
section
/-! SUPPORT. The model's own tests. Expected values come from spec/95_test_vectors.md (the number in a name is the vector's), from the
encodings of 30_encoding.md, or by hand from the rule named; then one witness per obligation that has hypotheses. -/

namespace Sys2Proof.Tests

open Sys2Proof Sys2Proof.Machine

/-! ## Well-formedness: each check refuses an ill-formed term (30_encoding.md R101, R107) -/

theorem test_sta_immediate_does_not_exist : pairExists .sta .imm = false := by decide
theorem test_ldx_absolute_x_does_not_exist : pairExists .ldx .abx = false := by decide
theorem test_jsr_indirect_does_not_exist : pairExists .jsr .ind = false := by decide
theorem test_inc_accumulator_does_not_exist : pairExists .inc .acc = false := by decide
theorem test_implied_with_byte_refused : operandFits .imp (some 0x10) none = false := by decide
theorem test_immediate_without_byte_refused : operandFits .imm none none = false := by decide
theorem test_absolute_with_byte_refused : operandFits .abs (some 0x10) none = false := by decide
theorem test_zero_page_with_word_refused : operandFits .zp (some 0x10) (some 0x1234) = false := by decide
theorem test_lda_absolute_is_well_formed : (Instr.ldaAbs 0x1234).wellFormed = true := by decide

/-! ## Decoding: every opcode byte of the map of R106, with operand bytes 34 12 -/

def reads (bytes : List Byte) (i : Instr) : Bool :=
  match decode bytes with
  | .ok (j, rest) => decide (j = i ∧ rest = [])
  | .error _ => false

theorem test_decode_row_0 :
    (reads [0x00] .brk && reads [0x01, 0x34] (.oraIzx 0x34) && reads [0x05, 0x34] (.oraZp 0x34) &&
      reads [0x06, 0x34] (.aslZp 0x34) && reads [0x08] .php && reads [0x09, 0x34] (.oraImm 0x34) &&
      reads [0x0A] .aslAcc && reads [0x0D, 0x34, 0x12] (.oraAbs 0x1234) && reads [0x0E, 0x34, 0x12] (.aslAbs 0x1234)) = true := by decide
theorem test_decode_row_1 :
    (reads [0x10, 0x34] (.bpl 0x34) && reads [0x11, 0x34] (.oraIzy 0x34) && reads [0x15, 0x34] (.oraZpx 0x34) &&
      reads [0x16, 0x34] (.aslZpx 0x34) && reads [0x18] .clc && reads [0x19, 0x34, 0x12] (.oraAby 0x1234) &&
      reads [0x1D, 0x34, 0x12] (.oraAbx 0x1234) && reads [0x1E, 0x34, 0x12] (.aslAbx 0x1234)) = true := by decide
theorem test_decode_row_2 :
    (reads [0x20, 0x34, 0x12] (.jsr 0x1234) && reads [0x21, 0x34] (.andIzx 0x34) && reads [0x24, 0x34] (.bitZp 0x34) &&
      reads [0x25, 0x34] (.andZp 0x34) && reads [0x26, 0x34] (.rolZp 0x34) && reads [0x28] .plp &&
      reads [0x29, 0x34] (.andImm 0x34) && reads [0x2A] .rolAcc && reads [0x2C, 0x34, 0x12] (.bitAbs 0x1234) &&
      reads [0x2D, 0x34, 0x12] (.andAbs 0x1234) && reads [0x2E, 0x34, 0x12] (.rolAbs 0x1234)) = true := by decide
theorem test_decode_row_3 :
    (reads [0x30, 0x34] (.bmi 0x34) && reads [0x31, 0x34] (.andIzy 0x34) && reads [0x35, 0x34] (.andZpx 0x34) &&
      reads [0x36, 0x34] (.rolZpx 0x34) && reads [0x38] .sec && reads [0x39, 0x34, 0x12] (.andAby 0x1234) &&
      reads [0x3D, 0x34, 0x12] (.andAbx 0x1234) && reads [0x3E, 0x34, 0x12] (.rolAbx 0x1234)) = true := by decide
theorem test_decode_row_4 :
    (reads [0x40] .rti && reads [0x41, 0x34] (.eorIzx 0x34) && reads [0x45, 0x34] (.eorZp 0x34) &&
      reads [0x46, 0x34] (.lsrZp 0x34) && reads [0x48] .pha && reads [0x49, 0x34] (.eorImm 0x34) &&
      reads [0x4A] .lsrAcc && reads [0x4C, 0x34, 0x12] (.jmpAbs 0x1234) && reads [0x4D, 0x34, 0x12] (.eorAbs 0x1234) &&
      reads [0x4E, 0x34, 0x12] (.lsrAbs 0x1234)) = true := by decide
theorem test_decode_row_5 :
    (reads [0x50, 0x34] (.bvc 0x34) && reads [0x51, 0x34] (.eorIzy 0x34) && reads [0x55, 0x34] (.eorZpx 0x34) &&
      reads [0x56, 0x34] (.lsrZpx 0x34) && reads [0x58] .cli && reads [0x59, 0x34, 0x12] (.eorAby 0x1234) &&
      reads [0x5D, 0x34, 0x12] (.eorAbx 0x1234) && reads [0x5E, 0x34, 0x12] (.lsrAbx 0x1234)) = true := by decide
theorem test_decode_row_6 :
    (reads [0x60] .rts && reads [0x61, 0x34] (.adcIzx 0x34) && reads [0x65, 0x34] (.adcZp 0x34) &&
      reads [0x66, 0x34] (.rorZp 0x34) && reads [0x68] .pla && reads [0x69, 0x34] (.adcImm 0x34) &&
      reads [0x6A] .rorAcc && reads [0x6C, 0x34, 0x12] (.jmpInd 0x1234) && reads [0x6D, 0x34, 0x12] (.adcAbs 0x1234) &&
      reads [0x6E, 0x34, 0x12] (.rorAbs 0x1234)) = true := by decide
theorem test_decode_row_7 :
    (reads [0x70, 0x34] (.bvs 0x34) && reads [0x71, 0x34] (.adcIzy 0x34) && reads [0x75, 0x34] (.adcZpx 0x34) &&
      reads [0x76, 0x34] (.rorZpx 0x34) && reads [0x78] .sei && reads [0x79, 0x34, 0x12] (.adcAby 0x1234) &&
      reads [0x7D, 0x34, 0x12] (.adcAbx 0x1234) && reads [0x7E, 0x34, 0x12] (.rorAbx 0x1234)) = true := by decide
theorem test_decode_row_8 :
    (reads [0x81, 0x34] (.staIzx 0x34) && reads [0x84, 0x34] (.styZp 0x34) && reads [0x85, 0x34] (.staZp 0x34) &&
      reads [0x86, 0x34] (.stxZp 0x34) && reads [0x88] .dey && reads [0x8A] .txa &&
      reads [0x8C, 0x34, 0x12] (.styAbs 0x1234) && reads [0x8D, 0x34, 0x12] (.staAbs 0x1234) && reads [0x8E, 0x34, 0x12] (.stxAbs 0x1234)) = true := by decide
theorem test_decode_row_9 :
    (reads [0x90, 0x34] (.bcc 0x34) && reads [0x91, 0x34] (.staIzy 0x34) && reads [0x94, 0x34] (.styZpx 0x34) &&
      reads [0x95, 0x34] (.staZpx 0x34) && reads [0x96, 0x34] (.stxZpy 0x34) && reads [0x98] .tya &&
      reads [0x99, 0x34, 0x12] (.staAby 0x1234) && reads [0x9A] .txs && reads [0x9D, 0x34, 0x12] (.staAbx 0x1234)) = true := by decide
theorem test_decode_row_A :
    (reads [0xA0, 0x34] (.ldyImm 0x34) && reads [0xA1, 0x34] (.ldaIzx 0x34) && reads [0xA2, 0x34] (.ldxImm 0x34) &&
      reads [0xA4, 0x34] (.ldyZp 0x34) && reads [0xA5, 0x34] (.ldaZp 0x34) && reads [0xA6, 0x34] (.ldxZp 0x34) &&
      reads [0xA8] .tay && reads [0xA9, 0x34] (.ldaImm 0x34) && reads [0xAA] .tax &&
      reads [0xAC, 0x34, 0x12] (.ldyAbs 0x1234) && reads [0xAD, 0x34, 0x12] (.ldaAbs 0x1234) && reads [0xAE, 0x34, 0x12] (.ldxAbs 0x1234)) = true := by decide
theorem test_decode_row_B :
    (reads [0xB0, 0x34] (.bcs 0x34) && reads [0xB1, 0x34] (.ldaIzy 0x34) && reads [0xB4, 0x34] (.ldyZpx 0x34) &&
      reads [0xB5, 0x34] (.ldaZpx 0x34) && reads [0xB6, 0x34] (.ldxZpy 0x34) && reads [0xB8] .clv &&
      reads [0xB9, 0x34, 0x12] (.ldaAby 0x1234) && reads [0xBA] .tsx && reads [0xBC, 0x34, 0x12] (.ldyAbx 0x1234) &&
      reads [0xBD, 0x34, 0x12] (.ldaAbx 0x1234) && reads [0xBE, 0x34, 0x12] (.ldxAby 0x1234)) = true := by decide
theorem test_decode_row_C :
    (reads [0xC0, 0x34] (.cpyImm 0x34) && reads [0xC1, 0x34] (.cmpIzx 0x34) && reads [0xC4, 0x34] (.cpyZp 0x34) &&
      reads [0xC5, 0x34] (.cmpZp 0x34) && reads [0xC6, 0x34] (.decZp 0x34) && reads [0xC8] .iny &&
      reads [0xC9, 0x34] (.cmpImm 0x34) && reads [0xCA] .dex && reads [0xCC, 0x34, 0x12] (.cpyAbs 0x1234) &&
      reads [0xCD, 0x34, 0x12] (.cmpAbs 0x1234) && reads [0xCE, 0x34, 0x12] (.decAbs 0x1234)) = true := by decide
theorem test_decode_row_D :
    (reads [0xD0, 0x34] (.bne 0x34) && reads [0xD1, 0x34] (.cmpIzy 0x34) && reads [0xD5, 0x34] (.cmpZpx 0x34) &&
      reads [0xD6, 0x34] (.decZpx 0x34) && reads [0xD8] .cld && reads [0xD9, 0x34, 0x12] (.cmpAby 0x1234) &&
      reads [0xDD, 0x34, 0x12] (.cmpAbx 0x1234) && reads [0xDE, 0x34, 0x12] (.decAbx 0x1234)) = true := by decide
theorem test_decode_row_E :
    (reads [0xE0, 0x34] (.cpxImm 0x34) && reads [0xE1, 0x34] (.sbcIzx 0x34) && reads [0xE4, 0x34] (.cpxZp 0x34) &&
      reads [0xE5, 0x34] (.sbcZp 0x34) && reads [0xE6, 0x34] (.incZp 0x34) && reads [0xE8] .inx &&
      reads [0xE9, 0x34] (.sbcImm 0x34) && reads [0xEA] .nop && reads [0xEC, 0x34, 0x12] (.cpxAbs 0x1234) &&
      reads [0xED, 0x34, 0x12] (.sbcAbs 0x1234) && reads [0xEE, 0x34, 0x12] (.incAbs 0x1234)) = true := by decide
theorem test_decode_row_F :
    (reads [0xF0, 0x34] (.beq 0x34) && reads [0xF1, 0x34] (.sbcIzy 0x34) && reads [0xF5, 0x34] (.sbcZpx 0x34) &&
      reads [0xF6, 0x34] (.incZpx 0x34) && reads [0xF8] .sed && reads [0xF9, 0x34, 0x12] (.sbcAby 0x1234) &&
      reads [0xFD, 0x34, 0x12] (.sbcAbx 0x1234) && reads [0xFE, 0x34, 0x12] (.incAbx 0x1234)) = true := by decide

theorem test_decode_keeps_the_rest : decode [0xA9, 0x10, 0xEA] = .ok (.ldaImm 0x10, [0xEA]) := rfl
theorem test_decode_refuses_an_undefined_opcode : decode [0x02, 0x00] = .error (.illegalOpcode 0x02) := rfl
theorem test_decode_refuses_missing_operand : decode [0xAD, 0x34] = .error .truncated := rfl
theorem test_encode_puts_the_low_byte_first : encode (.jmpAbs 0x1234) = [0x4C, 0x34, 0x12] := by decide
theorem test_table_word_of_lda_absolute : decodeTableWord 24 0x1234AD = some (.ldaAbs 0x1234) := by decide
theorem test_table_word_of_bne : decodeTableWord 16 0x03D0 = some (.bne 0x03) := by decide
theorem test_table_word_of_opcode_alone : decodeTableWord 8 0xA9 = some (.ldaImm 0x00) := by decide
theorem test_table_word_of_an_undefined_opcode : decodeTableWord 8 0x80 = none := by decide
theorem test_assembly_of_indirect_y : assemblyText 0x8000 (.ldaIzy 0x10) = ['L', 'D', 'A', ' ', '(', '$', '1', '0', ')', ',', 'Y'] := by
  decide
theorem test_assembly_of_a_branch : assemblyText 0x8000 (.bne 0xFE) = ['B', 'N', 'E', ' ', '$', '8', '0', '0', '0'] := by decide

/-! ## One step on a small state -/

/-- The state a step left, if it left one. -/
def after (r : Host.Outcome State Fault Refusal) : Option State :=
  match r with
  | .next s => some s
  | _ => none

def faultOf (r : Host.Outcome State Fault Refusal) : Option Fault :=
  match r with
  | .fault f => some f
  | _ => none

/-- Bytes placed one by one in RAM or ROM. -/
def poke (s : State) : List (Word × Byte) → State
  | [] => s
  | (a, b) :: rest => poke (s.place a b) rest

/-- The baseline start state of the spec's vectors (95_test_vectors.md, Conventions): PC 8000, stubs, one empty bank. -/
def baseline : State :=
  { State.reset with pc := 0x8000, ppu := ⟨.stub, [], 0⟩, io := ⟨.stub, [], 0⟩ }

/-- A vector's start state: the baseline with some fields changed, bytes poked, and the instruction bytes at PC. -/
def bench (code : List Byte) (cells : List (Word × Byte)) (pre : State → State) : State :=
  (poke (pre baseline) cells).placeBytes (pre baseline).pc code

def steps : Nat → State → Option State
  | 0, s => some s
  | k + 1, s => (after (step s)).bind (steps k)

/-- After the steps the state is the start state with the listed changes, and no others. -/
def vector (k : Nat) (s : State) (post : State → State) (cells : List (Word × Byte)) : Bool :=
  decide (steps k s = some (poke (post s) cells))

def slotAt (n : Nat) : Slot := consoleDevices.getD n ⟨.ram, 0, 1, 1⟩

theorem test_lda_T11 : vector 1 (bench [0xA1, 0xFE] [(0x0000, 0x07), (0x00FF, 0x00), (0x0100, 0x03), (0x0300, 0xAB), (0x0700, 0xCD)] fun s => { s with x := 0x01 }) (fun s => { s with a := 0xAB, pc := 0x8002, p := { s.p with n := true } }) [] = true := by decide
theorem test_lda_T15 : vector 1 (bench [0xB1, 0xFF] [(0x0000, 0x06), (0x00FF, 0x10), (0x0100, 0x04), (0x0411, 0x21), (0x0611, 0x12)] fun s => { s with y := 0x01 }) (fun s => { s with a := 0x21, pc := 0x8002 }) [] = true := by decide
theorem test_ldx_T19 : vector 1 (bench [0xB6, 0xF0] [(0x0001, 0x08)] fun s => { s with y := 0x11 }) (fun s => { s with x := 0x08, pc := 0x8002 }) [] = true := by decide
theorem test_ldx_T20 : vector 1 (bench [0xBE, 0x00, 0x03] [(0x0302, 0x00)] fun s => { s with x := 0x01, y := 0x02 }) (fun s => { s with x := 0x00, pc := 0x8003, p := { s.p with z := true } }) [] = true := by decide
theorem test_ldy_T22 : vector 1 (bench [0xB4, 0x10] [(0x0011, 0x90)] fun s => { s with x := 0x01 }) (fun s => { s with y := 0x90, pc := 0x8002, p := { s.p with n := true } }) [] = true := by decide
theorem test_ldy_T23 : vector 1 (bench [0xBC, 0x00, 0x03] [(0x03FF, 0x01)] fun s => { s with x := 0xFF }) (fun s => { s with y := 0x01, pc := 0x8003 }) [] = true := by decide
theorem test_sta_T25 : vector 1 (bench [0x8D, 0x00, 0x08] [] fun s => { s with a := 0x77 }) (fun s => { s with pc := 0x8003 }) [(0x0000, 0x77)] = true := by decide
theorem test_sta_T30 : vector 1 (bench [0x91, 0x20] [(0x0020, 0xFE), (0x0021, 0x04)] fun s => { s with a := 0x05, y := 0x03 }) (fun s => { s with pc := 0x8002 }) [(0x0501, 0x05)] = true := by decide
theorem test_stx_T34 : vector 1 (bench [0x96, 0x10] [] fun s => { s with x := 0x08, y := 0xF8 }) (fun s => { s with pc := 0x8002 }) [(0x0008, 0x08)] = true := by decide
theorem test_stx_T35 : vector 1 (bench [0x8E, 0xFF, 0x07] [] fun s => { s with x := 0x09 }) (fun s => { s with pc := 0x8003 }) [(0x07FF, 0x09)] = true := by decide
theorem test_sty_T37 : vector 1 (bench [0x94, 0x10] [] fun s => { s with x := 0x01, y := 0x0B }) (fun s => { s with pc := 0x8002 }) [(0x0011, 0x0B)] = true := by decide
theorem test_sty_T38 : vector 1 (bench [0x8C, 0xFF, 0x1F] [] fun s => { s with y := 0x01 }) (fun s => { s with pc := 0x8003 }) [(0x07FF, 0x01)] = true := by decide
theorem test_tax_T39 : vector 1 (bench [0xAA] [] fun s => { s with a := 0x00, x := 0x55 }) (fun s => { s with x := 0x00, pc := 0x8001, p := { s.p with z := true } }) [] = true := by decide
theorem test_tay_T40 : vector 1 (bench [0xA8] [] fun s => { s with a := 0x90 }) (fun s => { s with y := 0x90, pc := 0x8001, p := { s.p with n := true } }) [] = true := by decide
theorem test_txa_T41 : vector 1 (bench [0x8A] [] fun s => { s with x := 0x42 }) (fun s => { s with a := 0x42, pc := 0x8001 }) [] = true := by decide
theorem test_tya_T42 : vector 1 (bench [0x98] [] fun s => { s with y := 0xFF }) (fun s => { s with a := 0xFF, pc := 0x8001, p := { s.p with n := true } }) [] = true := by decide
theorem test_txs_T43 : vector 1 (bench [0x9A] [] fun s => { s with x := 0x00 }) (fun s => { s with sp := 0x00, pc := 0x8001 }) [] = true := by decide
theorem test_tsx_T45 : vector 1 (bench [0xBA] [] fun s => { s with sp := 0xFD }) (fun s => { s with x := 0xFD, pc := 0x8001, p := { s.p with n := true } }) [] = true := by decide
theorem test_adc_T49 : vector 1 (bench [0x69, 0x00] [] fun s => { s with a := 0x7F, p := { s.p with c := true } }) (fun s => { s with a := 0x80, pc := 0x8002, p := { s.p with n := true, v := true, c := false } }) [] = true := by decide
theorem test_adc_T54 : vector 1 (bench [0x69, 0x90] [] fun s => { s with a := 0xD0 }) (fun s => { s with a := 0x60, pc := 0x8002, p := { s.p with v := true, c := true } }) [] = true := by decide
theorem test_sbc_T59 : vector 1 (bench [0xE9, 0xB0] [] fun s => { s with a := 0x50, p := { s.p with c := true } }) (fun s => { s with a := 0xA0, pc := 0x8002, p := { s.p with n := true, v := true, c := false } }) [] = true := by decide
theorem test_sbc_T63 : vector 1 (bench [0xE9, 0x03] [] fun s => { s with a := 0x05, p := { s.p with c := false } }) (fun s => { s with a := 0x01, pc := 0x8002, p := { s.p with c := true } }) [] = true := by decide
theorem test_inc_T70 : vector 1 (bench [0xE6, 0x10] [(0x0010, 0xFF)] fun s => { s with p := { s.p with c := true } }) (fun s => { s with pc := 0x8002, p := { s.p with z := true } }) [(0x0010, 0x00)] = true := by decide
theorem test_inc_T72 : vector 1 (bench [0xEE, 0x10, 0x80] [(0x8010, 0x7F)] fun s => s) (fun s => { s with pc := 0x8003, p := { s.p with n := true } }) [] = true := by decide
theorem test_dec_T74 : vector 1 (bench [0xD6, 0x10] [(0x0011, 0x00)] fun s => { s with x := 0x01 }) (fun s => { s with pc := 0x8002, p := { s.p with n := true } }) [(0x0011, 0xFF)] = true := by decide
theorem test_dec_T75 : vector 1 (bench [0xCE, 0x00, 0x03] [(0x0300, 0x80)] fun s => { s with p := { s.p with n := true } }) (fun s => { s with pc := 0x8003, p := { s.p with n := false } }) [(0x0300, 0x7F)] = true := by decide
theorem test_inx_T76 : vector 1 (bench [0xE8] [] fun s => { s with x := 0x7F }) (fun s => { s with x := 0x80, pc := 0x8001, p := { s.p with n := true } }) [] = true := by decide
theorem test_inx_T77 : vector 1 (bench [0xE8] [] fun s => { s with x := 0xFF, p := { s.p with c := false } }) (fun s => { s with x := 0x00, pc := 0x8001, p := { s.p with z := true } }) [] = true := by decide
theorem test_iny_T78 : vector 1 (bench [0xC8] [] fun s => { s with y := 0x00 }) (fun s => { s with y := 0x01, pc := 0x8001 }) [] = true := by decide
theorem test_iny_T79 : vector 1 (bench [0xC8] [] fun s => { s with y := 0xFF }) (fun s => { s with y := 0x00, pc := 0x8001, p := { s.p with z := true } }) [] = true := by decide
theorem test_dex_T80 : vector 1 (bench [0xCA] [] fun s => { s with x := 0x00 }) (fun s => { s with x := 0xFF, pc := 0x8001, p := { s.p with n := true } }) [] = true := by decide
theorem test_dex_T81 : vector 1 (bench [0xCA] [] fun s => { s with x := 0x01 }) (fun s => { s with x := 0x00, pc := 0x8001, p := { s.p with z := true } }) [] = true := by decide
theorem test_dey_T82 : vector 1 (bench [0x88] [] fun s => { s with y := 0x80, p := { s.p with n := true } }) (fun s => { s with y := 0x7F, pc := 0x8001, p := { s.p with n := false } }) [] = true := by decide
theorem test_dey_T83 : vector 1 (bench [0x88] [] fun s => { s with y := 0x00 }) (fun s => { s with y := 0xFF, pc := 0x8001, p := { s.p with n := true } }) [] = true := by decide
theorem test_and_T84 : vector 1 (bench [0x29, 0x3C] [] fun s => { s with a := 0xF0 }) (fun s => { s with a := 0x30, pc := 0x8002 }) [] = true := by decide
theorem test_and_T86 : vector 1 (bench [0x25, 0x10] [(0x0010, 0x80)] fun s => { s with a := 0xFF }) (fun s => { s with a := 0x80, pc := 0x8002, p := { s.p with n := true } }) [] = true := by decide
theorem test_ora_T89 : vector 1 (bench [0x01, 0x20] [(0x0020, 0x00), (0x0021, 0x02), (0x0200, 0x10)] fun s => { s with a := 0x01, x := 0x00 }) (fun s => { s with a := 0x11, pc := 0x8002 }) [] = true := by decide
theorem test_eor_T92 : vector 1 (bench [0x59, 0x00, 0x03] [(0x0301, 0xF0)] fun s => { s with a := 0x0F, y := 0x01 }) (fun s => { s with a := 0xFF, pc := 0x8003, p := { s.p with n := true } }) [] = true := by decide
theorem test_asl_T94 : vector 1 (bench [0x0A] [] fun s => { s with a := 0x80 }) (fun s => { s with a := 0x00, pc := 0x8001, p := { s.p with z := true, c := true } }) [] = true := by decide
theorem test_asl_T96 : vector 1 (bench [0x06, 0x10] [(0x0010, 0xC1)] fun s => s) (fun s => { s with pc := 0x8002, p := { s.p with n := true, c := true } }) [(0x0010, 0x82)] = true := by decide
theorem test_lsr_T99 : vector 1 (bench [0x4A] [] fun s => { s with a := 0x80, p := { s.p with n := true, c := true } }) (fun s => { s with a := 0x40, pc := 0x8001, p := { s.p with n := false, c := false } }) [] = true := by decide
theorem test_lsr_T100 : vector 1 (bench [0x5E, 0x00, 0x03] [(0x0301, 0xFF)] fun s => { s with x := 0x01 }) (fun s => { s with pc := 0x8003, p := { s.p with c := true } }) [(0x0301, 0x7F)] = true := by decide
theorem test_rol_T101 : vector 1 (bench [0x2A] [] fun s => { s with a := 0x40, p := { s.p with c := true } }) (fun s => { s with a := 0x81, pc := 0x8001, p := { s.p with n := true, c := false } }) [] = true := by decide
theorem test_rol_T104 : vector 1 (bench [0x26, 0x10] [(0x0010, 0xFF)] fun s => { s with p := { s.p with c := true } }) (fun s => { s with pc := 0x8002, p := { s.p with n := true } }) [] = true := by decide
theorem test_ror_T105 : vector 1 (bench [0x6A] [] fun s => { s with a := 0x02, p := { s.p with c := true } }) (fun s => { s with a := 0x81, pc := 0x8001, p := { s.p with n := true, c := false } }) [] = true := by decide
theorem test_ror_T108 : vector 1 (bench [0x76, 0x10] [(0x0012, 0x03)] fun s => { s with x := 0x02, p := { s.p with c := false } }) (fun s => { s with pc := 0x8002, p := { s.p with c := true } }) [(0x0012, 0x01)] = true := by decide
theorem test_bit_T110 : vector 1 (bench [0x24, 0x10] [(0x0010, 0xC0)] fun s => { s with a := 0x01 }) (fun s => { s with pc := 0x8002, p := { s.p with n := true, v := true, z := true } }) [] = true := by decide
theorem test_bit_T111 : vector 1 (bench [0x2C, 0x00, 0x03] [(0x0300, 0x3F)] fun s => { s with a := 0xFF, p := { s.p with n := true, v := true, z := true } }) (fun s => { s with pc := 0x8003, p := { s.p with n := false, v := false, z := false } }) [] = true := by decide
theorem test_bcc_T113 : vector 1 (bench [0x90, 0x04] [] fun s => { s with p := { s.p with c := false } }) (fun s => { s with pc := 0x8006 }) [] = true := by decide
theorem test_bcc_T114 : vector 1 (bench [0x90, 0x04] [] fun s => { s with p := { s.p with c := true } }) (fun s => { s with pc := 0x8002 }) [] = true := by decide
theorem test_bcs_T115 : vector 1 (bench [0xB0, 0x04] [] fun s => { s with p := { s.p with c := true } }) (fun s => { s with pc := 0x8006 }) [] = true := by decide
theorem test_bcs_T116 : vector 1 (bench [0xB0, 0x04] [] fun s => { s with p := { s.p with c := false } }) (fun s => { s with pc := 0x8002 }) [] = true := by decide
theorem test_beq_T117 : vector 1 (bench [0xF0, 0xFC] [] fun s => { s with pc := 0x8010, p := { s.p with z := true } }) (fun s => { s with pc := 0x800E }) [] = true := by decide
theorem test_beq_T118 : vector 1 (bench [0xF0, 0xFC] [] fun s => { s with pc := 0x8010, p := { s.p with z := false } }) (fun s => { s with pc := 0x8012 }) [] = true := by decide
theorem test_bne_T119 : vector 1 (bench [0xD0, 0xFB] [] fun s => { s with pc := 0x8005, p := { s.p with z := false } }) (fun s => { s with pc := 0x8002 }) [] = true := by decide
theorem test_bne_T120 : vector 1 (bench [0xD0, 0xFB] [] fun s => { s with pc := 0x8005, p := { s.p with z := true } }) (fun s => { s with pc := 0x8007 }) [] = true := by decide
theorem test_bmi_T122 : vector 1 (bench [0x30, 0x7F] [] fun s => { s with pc := 0x9000, p := { s.p with n := true } }) (fun s => { s with pc := 0x9081 }) [] = true := by decide
theorem test_bmi_T123 : vector 1 (bench [0x30, 0x7F] [] fun s => { s with pc := 0x9000, p := { s.p with n := false } }) (fun s => { s with pc := 0x9002 }) [] = true := by decide
theorem test_bpl_T124 : vector 1 (bench [0x10, 0x80] [] fun s => { s with pc := 0x9000, p := { s.p with n := false } }) (fun s => { s with pc := 0x8F82 }) [] = true := by decide
theorem test_bpl_T125 : vector 1 (bench [0x10, 0x80] [] fun s => { s with pc := 0x9000, p := { s.p with n := true } }) (fun s => { s with pc := 0x9002 }) [] = true := by decide
theorem test_bvc_T126 : vector 1 (bench [0x50, 0x10] [] fun s => { s with pc := 0xFFFE, p := { s.p with v := false } }) (fun s => { s with pc := 0x0010 }) [] = true := by decide
theorem test_bvc_T127 : vector 1 (bench [0x50, 0x10] [] fun s => { s with pc := 0xFFFE, p := { s.p with v := true } }) (fun s => { s with pc := 0x0000 }) [] = true := by decide
theorem test_bvs_T128 : vector 1 (bench [0x70, 0xFD] [] fun s => { s with pc := 0x0000, p := { s.p with v := true } }) (fun s => { s with pc := 0xFFFF }) [] = true := by decide
theorem test_bvs_T129 : vector 1 (bench [0x70, 0xFD] [] fun s => { s with pc := 0x0000, p := { s.p with v := false } }) (fun s => { s with pc := 0x0002 }) [] = true := by decide
theorem test_jmp_T133 : vector 1 (bench [0x6C, 0x00, 0x02] [(0x0200, 0x34), (0x0201, 0x12)] fun s => s) (fun s => { s with pc := 0x1234 }) [] = true := by decide
theorem test_jmp_T134 : vector 1 (bench [0x6C, 0xFF, 0x02] [(0x0200, 0x40), (0x02FF, 0x00), (0x0300, 0x90)] fun s => s) (fun s => { s with pc := 0x9000 }) [] = true := by decide
theorem test_jsr_T135 : vector 1 (bench [0x20, 0x10, 0x80] [] fun s => s) (fun s => { s with sp := 0xFD, pc := 0x8010 }) [(0x01FE, 0x02), (0x01FF, 0x80)] = true := by decide
theorem test_jsr_T136 : vector 1 (bench [0x20, 0x00, 0x90] [] fun s => { s with pc := 0x80FD, sp := 0x00 }) (fun s => { s with sp := 0xFE, pc := 0x9000 }) [(0x0100, 0x80), (0x01FF, 0xFF)] = true := by decide
theorem test_rts_T139 : vector 1 (bench [0x60] [(0x01FE, 0xFF), (0x01FF, 0xFF)] fun s => { s with sp := 0xFD }) (fun s => { s with sp := 0xFF, pc := 0x0000 }) [] = true := by decide
theorem test_rts_T140 : vector 1 (bench [0x60] [(0x0100, 0x0F), (0x0101, 0x90)] fun s => { s with sp := 0xFF }) (fun s => { s with sp := 0x01, pc := 0x9010 }) [] = true := by decide
theorem test_rti_T141 : vector 1 (bench [0x40] [(0x01FD, 0xF3), (0x01FE, 0x45), (0x01FF, 0x80)] fun s => { s with sp := 0xFC }) (fun s => { s with sp := 0xFF, pc := 0x8045, p := { s.p with n := true, v := true, i := false, z := true, c := true } }) [] = true := by decide
theorem test_rti_T142 : vector 1 (bench [0x40] [(0x0100, 0x90), (0x01FE, 0x30), (0x01FF, 0x00)] fun s => { s with sp := 0xFD }) (fun s => { s with sp := 0x00, pc := 0x9000, p := { s.p with i := false } }) [] = true := by decide
theorem test_clc_T143 : vector 1 (bench [0x18] [] fun s => { s with p := { s.p with c := true } }) (fun s => { s with pc := 0x8001, p := { s.p with c := false } }) [] = true := by decide
theorem test_sec_T144 : vector 1 (bench [0x38] [] fun s => s) (fun s => { s with pc := 0x8001, p := { s.p with c := true } }) [] = true := by decide
theorem test_cld_T145 : vector 1 (bench [0xD8] [] fun s => { s with p := { s.p with d := true } }) (fun s => { s with pc := 0x8001, p := { s.p with d := false } }) [] = true := by decide
theorem test_sed_T146 : vector 1 (bench [0xF8] [] fun s => s) (fun s => { s with pc := 0x8001, p := { s.p with d := true } }) [] = true := by decide
theorem test_cli_T147 : vector 1 (bench [0x58] [] fun s => s) (fun s => { s with pc := 0x8001, p := { s.p with i := false } }) [] = true := by decide
theorem test_sei_T148 : vector 1 (bench [0x78] [] fun s => { s with p := { s.p with i := false } }) (fun s => { s with pc := 0x8001, p := { s.p with i := true } }) [] = true := by decide
theorem test_clv_T149 : vector 1 (bench [0xB8] [] fun s => { s with p := { s.p with v := true } }) (fun s => { s with pc := 0x8001, p := { s.p with v := false } }) [] = true := by decide
theorem test_cmp_T152 : vector 1 (bench [0xC9, 0x41] [] fun s => { s with a := 0x40, p := { s.p with c := true } }) (fun s => { s with pc := 0x8002, p := { s.p with n := true, c := false } }) [] = true := by decide
theorem test_cmp_T155 : vector 1 (bench [0xC9, 0x01] [] fun s => { s with a := 0x80, p := { s.p with v := true } }) (fun s => { s with pc := 0x8002, p := { s.p with c := true } }) [] = true := by decide
theorem test_cpx_T158 : vector 1 (bench [0xE0, 0x05] [] fun s => { s with x := 0x05 }) (fun s => { s with pc := 0x8002, p := { s.p with z := true, c := true } }) [] = true := by decide
theorem test_cpx_T160 : vector 1 (bench [0xEC, 0x00, 0x03] [(0x0300, 0x01)] fun s => { s with x := 0x00 }) (fun s => { s with pc := 0x8003, p := { s.p with n := true } }) [] = true := by decide
theorem test_cpy_T161 : vector 1 (bench [0xC0, 0x02] [] fun s => { s with y := 0x01 }) (fun s => { s with pc := 0x8002, p := { s.p with n := true } }) [] = true := by decide
theorem test_cpy_T163 : vector 1 (bench [0xCC, 0x00, 0x03] [(0x0300, 0x7F)] fun s => { s with y := 0xFF }) (fun s => { s with pc := 0x8003, p := { s.p with n := true, c := true } }) [] = true := by decide
theorem test_pha_T164 : vector 1 (bench [0x48] [] fun s => { s with a := 0x42 }) (fun s => { s with sp := 0xFE, pc := 0x8001 }) [(0x01FF, 0x42)] = true := by decide
theorem test_pha_T165 : vector 1 (bench [0x48] [] fun s => { s with a := 0x99, sp := 0x00 }) (fun s => { s with sp := 0xFF, pc := 0x8001 }) [(0x0100, 0x99)] = true := by decide
theorem test_php_T166 : vector 1 (bench [0x08] [] fun s => { s with p := { s.p with c := true, i := true, n := true } }) (fun s => { s with sp := 0xFE, pc := 0x8001 }) [(0x01FF, 0xB5)] = true := by decide
theorem test_php_T168 : vector 1 (bench [0x08] [] fun s => { s with p := { s.p with n := true, v := true, d := true, i := true, z := true, c := true } }) (fun s => { s with sp := 0xFE, pc := 0x8001 }) [(0x01FF, 0xFF)] = true := by decide
theorem test_pla_T169 : vector 1 (bench [0x68] [(0x01FF, 0x00)] fun s => { s with a := 0x55, sp := 0xFE }) (fun s => { s with a := 0x00, sp := 0xFF, pc := 0x8001, p := { s.p with z := true } }) [] = true := by decide
theorem test_pla_T170 : vector 1 (bench [0x68] [(0x0100, 0x80)] fun s => { s with sp := 0xFF }) (fun s => { s with a := 0x80, sp := 0x00, pc := 0x8001, p := { s.p with n := true } }) [] = true := by decide
theorem test_plp_T172 : vector 1 (bench [0x28] [(0x01FF, 0xC3)] fun s => { s with sp := 0xFE }) (fun s => { s with sp := 0xFF, pc := 0x8001, p := { s.p with n := true, v := true, i := false, z := true, c := true } }) [] = true := by decide
theorem test_plp_T174 : vector 1 (bench [0x28] [(0x01FF, 0xFF)] fun s => { s with sp := 0xFE, p := { s.p with i := false } }) (fun s => { s with sp := 0xFF, pc := 0x8001, p := { s.p with n := true, v := true, d := true, i := true, z := true, c := true } }) [] = true := by decide
theorem test_nop_T176 : vector 1 (bench [0xEA] [] fun s => s) (fun s => { s with pc := 0x8001 }) [] = true := by decide
theorem test_brk_T177 : vector 1 (bench [0x00, 0xFF] [(0xFFFE, 0x00), (0xFFFF, 0x90)] fun s => { s with p := { s.p with c := true, i := false } }) (fun s => { s with sp := 0xFC, pc := 0x9000, p := { s.p with i := true } }) [(0x01FD, 0x31), (0x01FE, 0x02), (0x01FF, 0x80)] = true := by decide
theorem test_brk_T179 : vector 1 (bench [0x00] [(0xFFFE, 0x00), (0xFFFF, 0xC0)] fun s => { s with pc := 0x8123, sp := 0x01, p := { s.p with i := false } }) (fun s => { s with sp := 0xFE, pc := 0xC000, p := { s.p with i := true } }) [(0x0100, 0x25), (0x0101, 0x81), (0x01FF, 0x30)] = true := by decide
theorem test_event_T181 : vector 1 (bench [0xEA] [(0xFFFA, 0x00), (0xFFFB, 0xA0), (0xFFFC, 0x00), (0xFFFD, 0x80), (0xFFFE, 0x00), (0xFFFF, 0x90)] fun s => { s with pc := 0x8123, irqLine := true, p := { s.p with i := false, c := true, z := true } }) (fun s => { s with sp := 0xFC, pc := 0x9000, p := { s.p with i := true } }) [(0x01FD, 0x23), (0x01FE, 0x23), (0x01FF, 0x81)] = true := by decide
theorem test_event_T182 : vector 1 (bench [0xEA] [(0xFFFA, 0x00), (0xFFFB, 0xA0), (0xFFFC, 0x00), (0xFFFD, 0x80), (0xFFFE, 0x00), (0xFFFF, 0x90)] fun s => { s with pc := 0x8123, irqLine := true, p := { s.p with i := true } }) (fun s => { s with pc := 0x8124 }) [] = true := by decide
theorem test_event_T183 : vector 1 (bench [0xEA] [(0xFFFA, 0x00), (0xFFFB, 0xA0), (0xFFFC, 0x00), (0xFFFD, 0x80), (0xFFFE, 0x00), (0xFFFF, 0x90)] fun s => { s with pc := 0x8123, nmiPending := true, p := { s.p with i := true, n := true } }) (fun s => { s with sp := 0xFC, pc := 0xA000, nmiPending := false }) [(0x01FD, 0xA4), (0x01FE, 0x23), (0x01FF, 0x81)] = true := by decide
theorem test_event_T184 : vector 1 (bench [0xEA] [(0xFFFA, 0x00), (0xFFFB, 0xA0), (0xFFFC, 0x00), (0xFFFD, 0x80), (0xFFFE, 0x00), (0xFFFF, 0x90)] fun s => { s with pc := 0x8123, nmiPending := true, irqLine := true, p := { s.p with i := false } }) (fun s => { s with sp := 0xFC, pc := 0xA000, nmiPending := false, p := { s.p with i := true } }) [(0x01FD, 0x20), (0x01FE, 0x23), (0x01FF, 0x81)] = true := by decide
theorem test_event_T186 : vector 1 (bench [0xEA] [(0xFFFA, 0x00), (0xFFFB, 0xA0), (0xFFFC, 0x00), (0xFFFD, 0x80), (0xFFFE, 0x00), (0xFFFF, 0x90)] fun s => { s with pc := 0x1234, a := 0x11, x := 0x22, y := 0x33, sp := 0x40, resetPending := true, p := { s.p with i := false, c := true, d := true } }) (fun s => { s with sp := 0xFF, pc := 0x8000, resetPending := false, p := { s.p with i := true } }) [] = true := by decide
theorem test_event_T187 : vector 1 (bench [0xEA] [(0xFFFA, 0x00), (0xFFFB, 0xA0), (0xFFFC, 0x00), (0xFFFD, 0x80), (0xFFFE, 0x00), (0xFFFF, 0x90)] fun s => { s with pc := 0x1234, sp := 0x40, resetPending := true, nmiPending := true, irqLine := true, p := { s.p with i := false } }) (fun s => { s with sp := 0xFF, pc := 0x8000, resetPending := false, nmiPending := false, p := { s.p with i := true } }) [] = true := by decide
theorem test_event_T188 : vector 1 (bench [] [(0xFFFA, 0x00), (0xFFFB, 0xA0), (0xFFFC, 0x00), (0xFFFD, 0x80), (0xFFFE, 0x00), (0xFFFF, 0x90)] fun s => { s with pc := 0xFFFF, sp := 0x01, irqLine := true, p := { s.p with i := false } }) (fun s => { s with sp := 0xFE, pc := 0x9000, p := { s.p with i := true } }) [(0x0100, 0xFF), (0x0101, 0xFF), (0x01FF, 0x20)] = true := by decide
theorem test_fault_T191 : faultOf (step (bench [0x02] [(0xFFFA, 0x00), (0xFFFB, 0xA0), (0xFFFC, 0x00), (0xFFFD, 0x80), (0xFFFE, 0x00), (0xFFFF, 0x90)] fun s => s)) = some (.illegalOpcode 0x8000 0x02) := by decide
theorem test_fault_T193 : faultOf (step (bench [0xFF] [(0xFFFA, 0x00), (0xFFFB, 0xA0), (0xFFFC, 0x00), (0xFFFD, 0x80), (0xFFFE, 0x00), (0xFFFF, 0x90)] fun s => { s with pc := 0x0200 })) = some (.illegalOpcode 0x0200 0xFF) := by decide
theorem test_fault_T194 : faultOf (step (bench [0xAD, 0x00, 0x20] [(0xFFFA, 0x00), (0xFFFB, 0xA0), (0xFFFC, 0x00), (0xFFFD, 0x80), (0xFFFE, 0x00), (0xFFFF, 0x90)] fun s => { s with devices := [slotAt 0, slotAt 2, slotAt 3] })) = some (.unmappedAccess 0x2000) := by decide
theorem test_fault_T195 : faultOf (step (bench [0x8D, 0x00, 0x40] [(0xFFFA, 0x00), (0xFFFB, 0xA0), (0xFFFC, 0x00), (0xFFFD, 0x80), (0xFFFE, 0x00), (0xFFFF, 0x90)] fun s => { s with devices := [slotAt 0, slotAt 1, slotAt 3] })) = some (.unmappedAccess 0x4000) := by decide
theorem test_fault_T196 : faultOf (step (bench [0x48] [(0xFFFA, 0x00), (0xFFFB, 0xA0), (0xFFFC, 0x00), (0xFFFD, 0x80), (0xFFFE, 0x00), (0xFFFF, 0x90)] fun s => { s with devices := [slotAt 3] })) = some (.unmappedAccess 0x01FF) := by decide

/-! ## Fetching from reset, status bytes, shifts, overflow, the bus (sections 3 and 5 of the vectors) -/

theorem test_placed_instruction_runs_from_reset :
    (after (step (State.reset.withFetchWord 24 0x0200AD))).map (fun s => (s.pc, s.p.z)) = some (0x0003, true) := by decide
theorem test_placed_store_runs_from_reset :
    (after (step (State.reset.withFetchWord 16 0x1085))).map (fun s => s.pc) = some 0x0002 := by decide
theorem test_first_step_from_power_on_is_the_reset : after (step State.powerOn) = some State.reset := by decide

def statusBytes (b : Byte) : Byte × Byte × Byte := (pack (assign b), instructionValue (assign b), interruptValue (assign b))

theorem test_status_bytes_P1_to_P6 :
    statusBytes 0x00 = (0x00, 0x30, 0x20) ∧ statusBytes 0xFF = (0xCF, 0xFF, 0xEF) ∧ statusBytes 0x10 = (0x00, 0x30, 0x20) ∧
    statusBytes 0x20 = (0x00, 0x30, 0x20) ∧ statusBytes 0xCF = (0xCF, 0xFF, 0xEF) ∧ statusBytes 0x34 = (0x04, 0x34, 0x24) := by decide
theorem test_shifts_P7_to_P14 :
    shiftLeft 0x80 false = (0x00, true) ∧ shiftLeft 0x80 true = (0x01, true) ∧ shiftLeft 0x01 true = (0x03, false) ∧
    shiftLeft 0xFF false = (0xFE, true) ∧ shiftRight 0x01 false = (0x00, true) ∧ shiftRight 0x01 true = (0x80, true) ∧
    shiftRight 0x80 true = (0xC0, false) ∧ shiftRight 0xFF false = (0x7F, true) := by decide
theorem test_overflow_P15_to_P20 :
    overflows2 0x7F 0x00 = false ∧ overflows3 0x7F 0x00 0x80 = true ∧ overflows3 0x7F 0x00 0x7F = false ∧
    overflows2 0x80 0xFF = true ∧ overflows3 0x80 0xFF 0x17F = true ∧ overflows2 0x80 0x7F = false ∧ overflows3 0x80 0x7F 0x100 = false ∧
    overflows2 0xFF 0x00 = false ∧ overflows3 0xFF 0x00 0x100 = false ∧ overflows2 0x3F 0x40 = false ∧
    overflows3 0x3F 0x40 0x80 = true := by decide
theorem test_ram_index_B1 : [0x0000, 0x07FF, 0x0800, 0x0FFF, 0x1000, 0x1FFF].map (slotAt 0).index = [0, 0x7FF, 0, 0x7FF, 0, 0x7FF] := by
  decide
theorem test_ram_bounds_B2 : (slotAt 0).contains 0x1FFF = true ∧ (slotAt 0).contains 0x2000 = false := by decide
theorem test_ppu_register_B3 : [0x2000, 0x2007, 0x2008, 0x2FF9, 0x3FFF].map (slotAt 1).index = [0, 7, 0, 1, 7] := by decide
theorem test_owners_B4 :
    [0x1FFF, 0x2000, 0x3FFF, 0x4000, 0x401F, 0x4020, 0x7FFF, 0x8000, 0xFFFF].map (fun a => (baseline.owner a).map Slot.kind) =
      [some .ram, some .ppu, some .ppu, some .io, some .io, some .cartridge, some .cartridge, some .cartridge, some .cartridge] := by
  decide

/-- A two-bank image with a marked first and last byte in each bank. -/
def twoBanks : State :=
  { baseline with cart := ⟨{ RomImage.empty with prg := [[(0, 0x11), (0x3FFF, 0x12)], [(0, 0x21), (0x3FFC, 0x22)]] }, ⟨.stub, [], 0⟩⟩ }

theorem test_two_banks_B6 : [0x8000, 0xBFFF, 0xC000, 0xFFFC].map twoBanks.byteAt = [0x11, 0x12, 0x21, 0x22] := by decide
theorem test_one_bank_B5 : (poke baseline [(0x8000, 0x11), (0xFFFC, 0x22)]).byteAt 0xC000 = 0x11 ∧
    (poke baseline [(0x8000, 0x11), (0xFFFC, 0x22)]).byteAt 0xBFFC = 0x22 := by decide
theorem test_word_read_B7 : (poke baseline [(0x07FF, 0x34), (0x0000, 0x12)]).wordAt 0x07FF = 0x1234 := by decide
theorem test_word_read_B8 : (poke baseline [(0xFFFF, 0x34), (0x0000, 0x12)]).wordAt 0xFFFF = 0x1234 := by decide

/-- The device lists of B9 to B12: a special device inside a fallback. -/
def special : Slot := ⟨.io, 0x4000, 0x4020, 0x20⟩
def fallback : Slot := ⟨.cartridge, 0x4000, 0x10000, 0xC000⟩
def overlapping : State := { baseline with devices := [special, fallback] }

theorem test_dispatch_B9_B10 : overlapping.owner 0x4010 = some special ∧ overlapping.owner 0x4020 = some fallback := by decide
theorem test_dispatch_B12 : State.owner { baseline with devices := [fallback, special] } 0x4010 = some fallback := by decide
theorem test_unsupported_mapper_rejected :
    Cartridge.construct { RomImage.empty with mapper := 1 } ⟨.stub, [], 0⟩ = .error (.unsupportedMapper 1) := rfl

/-- A cartridge with a device of its own below 0x8000. -/
def freeLow : State := { State.reset with cart := ⟨RomImage.empty, ⟨.free, [], 0⟩⟩ }

/-! ## Witnesses: a state and operands that meet the hypotheses of each obligation, at boundary values where it has clauses -/

theorem witness_DecodedBytesAreTheEncoding : decode [0xAD, 0x34, 0x12, 0xEA] = .ok (.ldaAbs 0x1234, [0xEA]) := rfl
theorem witness_IllegalOpcodeStopsTheMachine :
    (bench [0x02] [] id).quiet ∧ (bench [0x02] [] id).claimed (bench [0x02] [] id).pc = true ∧
      (decodeOpcode ((bench [0x02] [] id).byteAt (bench [0x02] [] id).pc)).isNone = true := by decide
theorem witness_StepExecutesTheDecodedInstruction :
    (bench [0xAD, 0x34, 0x12] [] id).covered ∧ (bench [0xAD, 0x34, 0x12] [] id).quiet ∧
      decode ((bench [0xAD, 0x34, 0x12] [] id).fetchedBytes 3) = .ok (.ldaAbs 0x1234, []) :=
  ⟨State.covered_of_onConsole (by decide), by decide, rfl⟩
theorem witness_StepExecutesTheDecodedInstruction_short :
    (bench [0xEA] [] id).covered ∧ (bench [0xEA] [] id).quiet ∧ (decode ((bench [0xEA] [] id).fetchedBytes 3)).toOption = some (.nop, [0x00, 0x00]) :=
  ⟨State.covered_of_onConsole (by decide), by decide, by decide⟩
theorem witness_FetchReadsAtPcAndAdvances :
    State.claimed { baseline with pc := 0xFFFF } 0xFFFF = true ∧ State.claimed { baseline with devices := [] } 0x8000 = false := by decide
theorem witness_ByteAndWordArithmeticWraps : 7 < 8 ∧ ((0xFF : Byte) + 0x01) = 0x00 ∧ ((0x00 : Byte) - 0x01) = 0xFF ∧ ((0xFFFF : Word) + 0x0001) = 0x0000 ∧
    ((0x0000 : Word) - 0x0001) = 0xFFFF := by decide
theorem witness_SingleBitOperationsChangeOneBit :
    Claims.changesOneBit (0x80 : Byte) 7 7 ∧ Claims.changesOneBit (0x80 : Byte) 7 0 ∧ Claims.changesOneBit (0x8000 : Word) 15 15 := by
  refine ⟨⟨?_, ?_, ?_, ?_⟩, ⟨?_, ?_, ?_, ?_⟩, ⟨?_, ?_, ?_, ?_⟩⟩ <;> decide
theorem witness_FirstClaimingDeviceIsReached :
    overlapping.devices = [] ++ special :: [fallback] ∧ overlapping.devices = [special] ++ fallback :: [] ∧
      (∀ e ∈ ([special] : List Slot), e.contains 0x4020 = false) ∧ special.contains 0x401F = true ∧ fallback.contains 0x4020 = true ∧
      fallback.contains 0x401F = true := by decide
theorem witness_UnclaimedAccessIsFatal :
    (∀ d ∈ overlapping.devices, d.contains 0x3FFF = false) ∧ busRead 0x3FFF overlapping = .error (.unmappedAccess 0x3FFF) ∧
      State.reset.onConsole := ⟨by decide, rfl, rfl⟩
theorem witness_RamWriteChangesOneCell :
    baseline.owner 0x07FF = some (slotAt 0) ∧ baseline.owner 0x1FFF = some (slotAt 0) ∧ baseline.owner 0x0800 = some (slotAt 0) ∧
      (slotAt 0).kind = .ram ∧ (slotAt 0).index 0x1FFF = (slotAt 0).index 0x07FF ∧ (slotAt 0).index 0x0800 ≠ (slotAt 0).index 0x07FF := by
  decide
theorem witness_ConsoleMapOwnersAndMirrors :
    State.reset.onConsole ∧ (State.reset.store 0x1FFF 0x42).byteAt 0x07FF = 0x42 ∧ (State.reset.store 0x0000 0x42).byteAt 0x1800 = 0x42 := by
  decide
theorem witness_RomWindowsShowTheBanks :
    twoBanks.onConsole ∧ twoBanks.cart.image.prg.head? = some [(0, 0x11), (0x3FFF, 0x12)] ∧
      twoBanks.cart.image.prg.getLast? = some [(0, 0x21), (0x3FFC, 0x22)] ∧ 0x8000 ≤ (0x8000 : Word).toNat ∧
      (0xBFFF : Word).toNat < 0xC000 ∧ ¬(0xC000 : Word).toNat < 0xC000 := by decide
theorem witness_DeviceWindowsSeeEveryAccess :
    State.reset.onConsole ∧ State.reset.ppu.mode = .free ∧ State.reset.io.mode = .free ∧
      (State.reset.touch 0x2000).ppu.history = [.read 0] ∧ (State.reset.store 0x3FFF 0x55).ppu.history = [.write 7 0x55] ∧
      (State.reset.touch 0x4000).io.history = [.read 0] ∧ (State.reset.store 0x401F 0x55).io.history = [.write 31 0x55] := by decide
theorem witness_DeviceWindowsSeeEveryAccess_below_the_rom :
    State.reset.onConsole ∧ State.reset.cart.low.mode = .stub ∧ State.reset.byteAt 0x4020 = 0x00 ∧ State.reset.touch 0x7FFF = State.reset := by
  decide

theorem witness_DeviceWindowsSeeEveryAccess_free_below_the_rom :
    freeLow.onConsole ∧ freeLow.cart.low.mode = .free ∧ (freeLow.touch 0x4020).cart.low.history = [.read 0x4020] ∧
      (freeLow.store 0x7FFF 0x55).cart.low.history = [.write 0x7FFF 0x55] := by decide

/-- Hypotheses of the form "every address has an owner" (or "the console's map") and nothing else are met by the reset state. -/
theorem witness_covered : State.reset.covered ∧ State.reset.onConsole := ⟨State.reset_covered, rfl⟩
theorem witness_PushAndPullMoveOneSlot :
    State.covered { State.reset with sp := 0x00 } ∧ (after (outcome (push16 0x1234 { State.reset with sp := 0x00 }))).map (fun t => (t.sp, t.byteAt 0x0100, t.byteAt 0x01FF)) = some (0xFE, 0x12, 0x34) := ⟨State.covered_of_onConsole rfl, by decide⟩
theorem witness_PullAfterPushReturnsTheByte :
    State.onConsole { State.reset with sp := 0x00 } ∧ (after (outcome (push8 0x7E { State.reset with sp := 0x00 }))).map (fun t => (t.sp, t.top)) = some (0xFF, 0x7E) := by decide
theorem witness_ResetStepLoadsTheVector :
    State.powerOn.covered ∧ State.powerOn.resetPending = true := ⟨State.covered_of_onConsole rfl, rfl⟩
theorem witness_InterruptStepsEnter_nmi :
    State.covered { State.reset with nmiPending := true } ∧ ({ State.reset with nmiPending := true } : State).resetPending = false ∧ ({ State.reset with nmiPending := true } : State).nmiPending = true := ⟨State.covered_of_onConsole rfl, rfl, rfl⟩
theorem witness_InterruptStepsEnter_irq :
    State.covered { State.reset with irqLine := true, p := assign 0x00 } ∧ State.reset.resetPending = false ∧ State.reset.nmiPending = false ∧ ({ State.reset with irqLine := true, p := assign 0x00 } : State).irqLine = true ∧ (assign 0x00).i = false := ⟨State.covered_of_onConsole rfl, rfl, rfl, rfl, rfl⟩
theorem witness_MaskedIrqLeavesTheStepAlone :
    (bench [0xEA] [] id).p.i = true ∧ ∃ t, step (bench [0xEA] [] id) = .next t := ⟨by decide, _, rfl⟩
theorem witness_LdaCopiesTheOperandIntoA : State.reset.covered ∧ ∃ t, exec (.ldaIzy 0xFF) State.reset = .next t :=
  ⟨State.covered_of_onConsole rfl, _, rfl⟩
theorem witness_EffectiveAddressesOfTheModes : State.reset.covered ∧ ∃ t, exec (.ldaIzx 0xFF) State.reset = .next t :=
  ⟨State.covered_of_onConsole rfl, _, rfl⟩
theorem witness_LdxAndLdyCopyTheOperand_ldx : State.reset.covered ∧ ∃ t, exec (.ldxZpy 0xFF) State.reset = .next t :=
  ⟨State.covered_of_onConsole rfl, _, rfl⟩
theorem witness_LdxAndLdyCopyTheOperand_ldy : State.reset.covered ∧ ∃ t, exec (.ldyAbx 0xFFFF) State.reset = .next t :=
  ⟨State.covered_of_onConsole rfl, _, rfl⟩
theorem witness_StoresWriteTheRegister : State.reset.covered ∧ ∃ t, exec (.staAbx 0x01FF) State.reset = .next t :=
  ⟨State.covered_of_onConsole rfl, _, rfl⟩
theorem witness_AdcAddsWithCarry : State.reset.covered ∧ ∃ t, exec (.adcImm 0x80) State.reset = .next t :=
  ⟨State.covered_of_onConsole rfl, _, rfl⟩
theorem witness_SbcSubtractsWithBorrow : State.reset.covered ∧ ∃ t, exec (.sbcImm 0x80) State.reset = .next t :=
  ⟨State.covered_of_onConsole rfl, _, rfl⟩
theorem witness_IncrementAndDecrementMemory : State.reset.covered ∧ ∃ t, exec (.incAbs 0x1FFF) State.reset = .next t :=
  ⟨State.covered_of_onConsole rfl, _, rfl⟩
theorem witness_BitwiseInstructionsAndBit : State.reset.covered ∧ ∃ t, exec (.bitAbs 0x0000) State.reset = .next t :=
  ⟨State.covered_of_onConsole rfl, _, rfl⟩
theorem witness_ShiftsMoveOneBitIntoCarry : State.reset.covered ∧ ∃ t, exec (.aslZp 0xFF) State.reset = .next t :=
  ⟨State.covered_of_onConsole rfl, _, rfl⟩
theorem witness_RotatesPassThroughCarry : State.reset.covered ∧ ∃ t, exec (.rorAbx 0xFFFF) State.reset = .next t :=
  ⟨State.covered_of_onConsole rfl, _, rfl⟩
theorem witness_JumpsCallsAndReturns_jmp : State.reset.covered ∧ ∃ t, exec (.jmpInd 0xFFFF) State.reset = .next t :=
  ⟨State.covered_of_onConsole rfl, _, rfl⟩
theorem witness_JumpsCallsAndReturns_jsr : State.reset.covered ∧ ∃ t, exec (.jsr 0xFFFF) State.reset = .next t :=
  ⟨State.covered_of_onConsole rfl, _, rfl⟩
theorem witness_JumpsCallsAndReturns_rts : State.reset.covered ∧ ∃ t, exec .rts State.reset = .next t :=
  ⟨State.covered_of_onConsole rfl, _, rfl⟩
theorem witness_RtiRestoresStatusAndPc : State.reset.covered ∧ ∃ t, exec .rti State.reset = .next t :=
  ⟨State.covered_of_onConsole rfl, _, rfl⟩
theorem witness_CompareInstructionsSetFlagsOnly : State.reset.covered ∧ ∃ t, exec (.cpyAbs 0x0000) State.reset = .next t :=
  ⟨State.covered_of_onConsole rfl, _, rfl⟩
theorem witness_StackInstructionsPushAndPull : State.reset.covered ∧ ∃ t, exec .plp State.reset = .next t :=
  ⟨State.covered_of_onConsole rfl, _, rfl⟩
theorem witness_BrkEntersAndIsToldApart : State.reset.covered ∧ ∃ t, exec .brk State.reset = .next t :=
  ⟨State.covered_of_onConsole rfl, _, rfl⟩
theorem witness_EffectiveAddressesOfTheModes_pointer_at_ff : (0xFE : Byte) + 0x01 = 0xFF ∧ ({ State.reset with x := 0x01 } : State).x = 0x01 := by
  decide
theorem witness_CompareIsSubtractionThatIsDiscarded : value (.imm 0x01) { State.reset with a := 0x80 } = .ok (0x01, { State.reset with a := 0x80 }) := rfl
theorem witness_BranchesGoToTheTargetWhenTaken : exec (.bne 0x80) State.reset = .next { State.reset with pc := 0xFF80 } := rfl
theorem witness_RegistersAndFlagsChangeOnlyAsListed :
    (∃ t, exec (.ldaImm 0x80) State.reset = .next t) ∧ Reg.x ∉ (Instr.ldaImm 0x80).registersWritten ∧ (Instr.ldaImm 0x80).writesPc = false ∧
      Flag.c ∉ (Instr.ldaImm 0x80).flagsWritten := ⟨⟨_, rfl⟩, by decide, rfl, by decide⟩
theorem witness_MemoryChangesOnlyWhereStored :
    (∃ t, exec (.staAbs 0x0200) State.reset = .next t) ∧ (Instr.staAbs 0x0200).storedAt State.reset = [0x0200] ∧
      State.reset.cellOf 0x0200 = some 0x200 ∧ State.reset.cellOf 0x0A00 = some 0x200 ∧ State.reset.cellOf 0x0201 = some 0x201 ∧
      State.reset.cellOf 0x8000 = none := ⟨⟨_, rfl⟩, by decide, by decide, by decide, by decide, by decide⟩
theorem witness_MemoryChangesOnlyWhereStored_no_store :
    (∃ t, exec (.cmpAbs 0x0200) State.reset = .next t) ∧ (Instr.cmpAbs 0x0200).storedAt State.reset = [] := ⟨⟨_, rfl⟩, rfl⟩
theorem witness_InstructionsLeaveTheInputsAlone : ∃ t, exec (.incAbs 0x2000) State.reset = .next t := ⟨_, rfl⟩
theorem witness_InstructionsFaultOnlyOnUnclaimedAddresses :
    exec (.staAbs 0x2000) { State.reset with devices := [] } = .fault (.unmappedAccess 0x2000) ∧ State.reset.covered :=
  ⟨rfl, State.reset_covered⟩
theorem witness_StepKeepsTheInvariant : State.reset.wf ∧ ∃ t, step State.reset = .next t := ⟨by decide, _, rfl⟩
theorem witness_StepNeverChangesTheConfiguration : ∃ t, step (bench [0x8D, 0x00, 0x80] [] id) = .next t := ⟨_, rfl⟩
theorem witness_StepNeverChangesTheConfiguration_pending :
    ∃ t, step { State.reset with nmiPending := true } = .next t ∧ t.nmiPending = false := ⟨_, rfl, rfl⟩
theorem witness_StepProgressesUnlessIllegal : State.reset.covered ∧ (∃ t, step State.reset = .next t) ∧
    faultOf (step (bench [0x02] [] id)) = some (.illegalOpcode 0x8000 0x02) := ⟨State.reset_covered, ⟨_, rfl⟩, by decide⟩
theorem witness_DecimalFlagIsOnlyCarriedAlong :
    (Instr.adcImm 0x01).mnemonic ≠ .php ∧ (Instr.adcImm 0x01).mnemonic ≠ .brk ∧ ∃ t, exec (.adcImm 0x01) State.reset = .next t :=
  ⟨by decide, by decide, _, rfl⟩
theorem witness_ReturnsUndoCallsAndEntries : State.onConsole { State.reset with sp := 0x00, pc := 0xFFFF } := rfl
theorem witness_DeviceAccessesAreExactlyTheListed :
    State.reset.onConsole ∧ State.reset.covered ∧ State.reset.ppu.mode = .free ∧ State.reset.io.mode = .free ∧
      (Instr.ldaAbs 0x2000).memForm = some (.abs 0x2000) ∧ (State.reset.effective (.abs 0x2000)).toNat = 0x2000 ∧
      (Instr.incAbx 0x3FFF).memForm = some (.abx 0x3FFF) ∧ (State.reset.effective (.abx 0x3FFF)).toNat = 0x3FFF ∧
      (Instr.staAby 0x4000).memForm = some (.aby 0x4000) ∧ (State.reset.effective (.aby 0x4000)).toNat = 0x4000 ∧
      (Instr.rolAbs 0x401F).memForm = some (.abs 0x401F) ∧ (State.reset.effective (.abs 0x401F)).toNat = 0x401F :=
  ⟨rfl, State.reset_covered, rfl, rfl, rfl, rfl, rfl, rfl, rfl, rfl, rfl, rfl⟩
theorem witness_DeviceAccessesAreExactlyTheListed_through_a_pointer :
    (Instr.ldaIzy 0x10).memForm = some (.izy 0x10) ∧ (poke State.reset [(0x0011, 0x20)]).effective (.izy 0x10) = 0x2000 ∧
      (poke State.reset [(0x0011, 0x20)]).onConsole := by decide
theorem test_accesses_of_load_store_and_increment :
    (after (exec (.ldaAbs 0x2002) State.reset)).map (fun t => t.ppu.history) = some [.read 2] ∧
    (after (exec (.staAbs 0x4014) { State.reset with a := 0x55 })).map (fun t => t.io.history) = some [.write 0x14 0x55] ∧
    (after (exec (.incAbs 0x2007) { State.reset with ppu := ⟨.free, [], 0⟩ })).map (fun t => t.ppu.history.length) = some 2 := by decide
theorem test_accesses_listed_for_jsr_and_indirect :
    Claims.accesses (.jsr 0x9000) { State.reset with pc := 0x8003 } = [.write 0x01FF 0x80, .write 0x01FE 0x02] ∧
    Claims.accesses (.ldaIzx 0xFE) { State.reset with x := 0x01 } = [.read 0x00FF, .read 0x0100, .read 0x0000] := by decide
theorem witness_StoresAreSeenByTheNextFetch :
    State.onConsole { State.reset with pc := 0x1800 } ∧ (Instr.staAbs 0x0000).memForm = some (.abs 0x0000) ∧
      (Instr.staAbs 0x0000).storedAt { State.reset with pc := 0x1800 } = [State.effective { State.reset with pc := 0x1800 } (.abs 0x0000)] ∧
      (0x0000 : Word).toNat < 0x2000 ∧ (0x1800 : Word).toNat < 0x2000 ∧ (0x0000 : Word).toNat % 0x800 = (0x1800 : Word).toNat % 0x800 := by
  decide
theorem witness_StoresAreSeenByTheNextFetch_last_byte :
    State.onConsole { State.reset with pc := 0x07FF } ∧ (Instr.incAbs 0x1FFF).memForm = some (.abs 0x1FFF) ∧
      (Instr.incAbs 0x1FFF).storedAt { State.reset with pc := 0x07FF } = [State.effective { State.reset with pc := 0x07FF } (.abs 0x1FFF)] ∧
      (0x1FFF : Word).toNat < 0x2000 ∧ (0x1FFF : Word).toNat % 0x800 = (0x07FF : Word).toNat % 0x800 := by decide
theorem witness_JumpToSelfLeavesTheStateUnchanged :
    (bench [0x4C, 0x00, 0x80] [] id).quiet ∧ (bench [0x4C, 0x00, 0x80] [] id).pc = 0x8000 ∧
      [0x8000, 0x8001, 0x8002].map (bench [0x4C, 0x00, 0x80] [] id).stored = [some 0x4C, some 0x00, some 0x80] := by decide

end Sys2Proof.Tests
end

section
/-! The proofs for 00_scope.md: the primitives of section 6 (R5 to R12), the shifts and rotates they give meaning to
(R213 to R216), and the progress of a step (R14, R302). -/

namespace Sys2Proof.Machine

/-! ## Words and single bits (R5 to R7) -/

/-- Settles O8: the wrapping is `BitVec`'s own arithmetic; the composition of a Word is `word_toNat`, `word_high_low` and their
companions. -/
theorem byteAndWordArithmeticWraps : Obligations.ByteAndWordArithmeticWraps := by
  refine ⟨fun a b => ⟨BitVec.toNat_add a b, ?_, BitVec.toNat_not, BitVec.xor_allOnes.symm, fun i _ =>
    ⟨BitVec.getLsbD_and, BitVec.getLsbD_or, BitVec.getLsbD_xor⟩⟩, fun v w => ⟨BitVec.toNat_add v w, ?_⟩,
    fun h l => ⟨word_toNat h l, high_word h l, low_word h l⟩, word_high_low, by decide⟩
  · rw [BitVec.toNat_sub]
    omega
  · rw [BitVec.toNat_sub]
    omega

/-- Within the width, `set`, `clear` and `toggle` act on the bit named and on no other, for every width. -/
theorem changesOneBit_of_lt {w : Nat} (v : BitVec w) {i j : Nat} (hi : i < w) (hj : j < w) : Claims.changesOneBit v i j := by
  have hbit : (BitVec.twoPow w i).getLsbD j = decide (j = i) := by simp [BitVec.getLsbD_twoPow, hi, eq_comm]
  refine ⟨rfl, ?_, ?_, ?_⟩
  · rw [setBit, BitVec.getLsbD_or, hbit]
    split <;> simp [*]
  · rw [clearBit, BitVec.getLsbD_and, BitVec.getLsbD_not, hbit]
    split <;> simp [*]
  · rw [toggleBit, BitVec.getLsbD_xor, hbit]
    split <;> simp [*]

/-- Settles O9: `changesOneBit_of_lt` at the widths 8 and 16. -/
theorem singleBitOperationsChangeOneBit : Obligations.SingleBitOperationsChangeOneBit :=
  ⟨fun v _ _ hi hj => changesOneBit_of_lt v hi hj, fun v _ _ hi hj => changesOneBit_of_lt v hi hj⟩

/-! ## Shifts and rotates of a byte (R8, R9) -/

/-- A left shift doubles the byte modulo 256, adds the carry-in and puts bit 7 out. -/
theorem shiftLeft_eq (v : Byte) (c : Bool) : shiftLeft v c = (BitVec.ofNat 8 (v.toNat * 2 + c.toNat), v.getLsbD 7) := by
  have hc : c.toNat < 2 ^ 1 := c.toNat_lt
  have hor := Nat.two_pow_add_eq_or_of_lt hc (v.toNat % 128)
  have hbyte : v <<< 1 ||| (BitVec.ofBool c).setWidth 8 = BitVec.ofNat 8 (v.toNat * 2 + c.toNat) := by
    apply BitVec.eq_of_toNat_eq
    have hv : v.toNat * 2 ^ 1 % 2 ^ 8 = 2 ^ 1 * (v.toNat % 128) := by omega
    rw [BitVec.toNat_or, BitVec.toNat_shiftLeft, BitVec.toNat_setWidth, BitVec.toNat_ofBool, BitVec.toNat_ofNat,
      Nat.shiftLeft_eq, hv, Nat.mod_eq_of_lt (by omega : c.toNat < 2 ^ 8), ← hor]
    omega
  rw [shiftLeft, hbyte, bitOf]

/-- A right shift halves the byte, puts the carry-in in bit 7 and bit 0 out. -/
theorem shiftRight_eq (v : Byte) (c : Bool) :
    shiftRight v c = (BitVec.ofNat 8 (v.toNat / 2 + 128 * c.toNat), v.getLsbD 0) := by
  have hc : c.toNat < 2 := c.toNat_lt
  have hhalf : v.toNat / 2 < 2 ^ 7 := by omega
  have hor := Nat.two_pow_add_eq_or_of_lt hhalf c.toNat
  have hbyte : v >>> 1 ||| (BitVec.ofBool c).setWidth 8 <<< 7 = BitVec.ofNat 8 (v.toNat / 2 + 128 * c.toNat) := by
    apply BitVec.eq_of_toNat_eq
    have hin : c.toNat % 2 ^ 8 * 2 ^ 7 % 2 ^ 8 = 2 ^ 7 * c.toNat := by omega
    rw [BitVec.toNat_or, BitVec.toNat_ushiftRight, BitVec.toNat_shiftLeft, BitVec.toNat_setWidth, BitVec.toNat_ofBool,
      BitVec.toNat_ofNat, Nat.shiftRight_eq_div_pow, Nat.shiftLeft_eq, hin, Nat.or_comm, ← hor]
    omega
  rw [shiftRight, hbyte, bitOf]

/-- Settles O10: `shiftLeft_eq` and `shiftRight_eq`, with the bit shifted out written as a number. -/
theorem shiftsAndRotatesCarryTheBitOut : Obligations.ShiftsAndRotatesCarryTheBitOut := by
  intro v c
  have hc : c.toNat < 2 := c.toNat_lt
  have hbit7 : (v.getLsbD 7).toNat = v.toNat / 2 ^ 7 % 2 := Nat.toNat_testBit v.toNat 7
  have hbit0 : (v.getLsbD 0).toNat = v.toNat / 2 ^ 0 % 2 := Nat.toNat_testBit v.toNat 0
  rw [rotateLeft, rotateRight, shiftLeft_eq, shiftRight_eq, BitVec.toNat_ofNat, BitVec.toNat_ofNat, hbit7, hbit0]
  refine ⟨?_, rfl, ?_, rfl, rfl, rfl, ?_, ?_⟩ <;> omega

/-! ## Overflow (R10 to R12) -/

theorem overflows3_sum (l r : Byte) : overflows3 l r (l.toNat + r.toNat) = overflows2 l r := by
  rw [overflows3, overflows2, BitVec.ofNat_add, BitVec.ofNat_toNat, BitVec.ofNat_toNat, BitVec.setWidth_eq, BitVec.setWidth_eq]

theorem overflows3_eq_bits (l r : Byte) (res : Nat) :
    overflows3 l r res = decide (l.getLsbD 7 = r.getLsbD 7 ∧ (BitVec.ofNat 8 res).getLsbD 7 ≠ l.getLsbD 7) := by
  simp only [overflows3, sign, bitOf]
  cases l.getLsbD 7 <;> cases r.getLsbD 7 <;> cases (BitVec.ofNat 8 res).getLsbD 7 <;> rfl

/-- The mask form of R12: bit 7 of the result differs from bit 7 of both operands. -/
theorem overflows3_eq_mask (l r : Byte) (res : Nat) :
    overflows3 l r res = decide ((((l ^^^ BitVec.ofNat 8 res) &&& (r ^^^ BitVec.ofNat 8 res)) &&& 0x80) ≠ 0) := by
  have hmask (x : Byte) : decide (x &&& BitVec.twoPow 8 7 ≠ 0) = x.getLsbD 7 := by
    rw [BitVec.and_twoPow]
    cases x.getLsbD 7 <;> rfl
  rw [show (0x80 : Byte) = BitVec.twoPow 8 7 from rfl, hmask, BitVec.getLsbD_and, BitVec.getLsbD_xor, BitVec.getLsbD_xor]
  simp only [overflows3, sign, bitOf]
  cases l.getLsbD 7 <;> cases r.getLsbD 7 <;> cases (BitVec.ofNat 8 res).getLsbD 7 <;> rfl

/-- The predicate of R12 on numbers: the operands lie on one side of 128 and the low byte of the sum on the other. -/
theorem overflows3_eq_true_iff (l r : Byte) (res : Nat) :
    overflows3 l r res = true ↔
      (128 ≤ l.toNat ↔ 128 ≤ r.toNat) ∧ ¬(128 ≤ res % 256 ↔ 128 ≤ l.toNat) := by
  simp [overflows3, sign_eq]

/-- On the sum with the carry-in, the predicate says that the signed sum leaves the signed range. -/
theorem overflows3_eq_leavesSignedRange (l r : Byte) (c : Bool) :
    overflows3 l r (l.toNat + r.toNat + c.toNat) = Claims.leavesSignedRange (l.toInt + r.toInt + c.toNat) := by
  have hc : c.toNat < 2 := c.toNat_lt
  rw [Bool.eq_iff_iff, overflows3_eq_true_iff, Claims.leavesSignedRange, decide_eq_true_eq, signed8_eq, signed8_eq]
  split <;> split <;> omega

/-- On the sum with the carry-in, the predicate is the carry into bit 7 against the carry out of it. -/
theorem overflows3_eq_carries (l r : Byte) (c : Bool) :
    overflows3 l r (l.toNat + r.toNat + c.toNat) =
      (decide (128 ≤ l.toNat % 128 + r.toNat % 128 + c.toNat) ^^ decide (256 ≤ l.toNat + r.toNat + c.toNat)) := by
  have hc : c.toNat < 2 := c.toNat_lt
  rw [Bool.eq_iff_iff, overflows3_eq_true_iff, Bool.xor_iff_ne, ne_eq, decide_eq_decide]
  omega

/-- Settles O11: the two-operand predicate is the three-operand one without a carry-in. -/
theorem overflowIsLeavingTheSignedRange : Obligations.OverflowIsLeavingTheSignedRange := by
  refine ⟨fun _ => rfl, fun l r => ⟨?_, ?_⟩, by decide, by decide, by decide, by decide,
    fun l r res => ⟨overflows3_eq_bits l r res, overflows3_eq_mask l r res⟩, overflows3_sum, by decide, by decide,
    fun l r c => ⟨overflows3_eq_leavesSignedRange l r c, overflows3_eq_carries l r c⟩⟩
  · simpa [overflows3_sum, BitVec.ofNat_add] using overflows3_eq_bits l r (l.toNat + r.toNat)
  · simpa [overflows3_sum] using overflows3_eq_leavesSignedRange l r false

/-! ## The shift and rotate instructions (R213 to R216) -/

/-- An instruction that shifts the accumulator leaves the byte `r` there and the bit `out` in the carry. -/
theorem exec_shift_acc {s : State} (hc : s.covered) {i : Instr} {x : Byte × Bool} {r : Byte} {out : Bool}
    (hi : i.result s = (s.setA x.1).setP (shiftFlags s.p x)) (hx : x = (r, out)) :
    exec i s = .next (Claims.shifted { s with a := r } r out) := by
  subst hx
  rw [exec_of_covered hc, hi]
  rfl

/-- An instruction that shifts the byte at the effective address leaves the byte `r` there and the bit `out` in the carry. -/
theorem exec_shift_at {s : State} (hc : s.covered) {i : Instr} {form : MemForm} (f : Byte → Byte × Bool) {r : Byte} {out : Bool}
    (hi : i.result s = s.modified form (fun m => (f m).1) fun p m => shiftFlags p (f m)) (hf : f (s.operand form) = (r, out)) :
    exec i s = .next (Claims.shifted ((s.afterOperand form).store (s.effective form) r) r out) := by
  rw [exec_of_covered hc, hi]
  simp [State.modified, hf, Claims.shifted, shiftFlags, logical, sign, bitOf, State.setP]

/-- Settles O37: ASL and LSR are `shiftLeft` and `shiftRight` with a 0 shifted in, on A or at the effective address. -/
theorem shiftsMoveOneBitIntoCarry : Obligations.ShiftsMoveOneBitIntoCarry := by
  intro s d8 d16 hc
  refine ⟨⟨exec_shift_acc hc rfl (shiftLeft_eq s.a false), fun q hq => ?asl⟩,
    exec_shift_acc hc rfl (shiftRight_eq s.a false), fun q hq => ?lsr⟩
  case asl => exact exec_shift_at hc (shiftLeft · false) (by fin_cases hq <;> rfl) (shiftLeft_eq _ false)
  case lsr => exact exec_shift_at hc (shiftRight · false) (by fin_cases hq <;> rfl) (shiftRight_eq _ false)

/-- Settles O38: ROL and ROR are `shiftLeft` and `shiftRight` with the carry before the instruction shifted in. -/
theorem rotatesPassThroughCarry : Obligations.RotatesPassThroughCarry := by
  intro s d8 d16 hc
  refine ⟨⟨exec_shift_acc hc rfl (shiftLeft_eq s.a s.p.c), fun q hq => ?rol⟩,
    exec_shift_acc hc rfl (shiftRight_eq s.a s.p.c), fun q hq => ?ror⟩
  case rol => exact exec_shift_at hc (rotateLeft · s.p.c) (by fin_cases hq <;> rfl) (shiftLeft_eq _ s.p.c)
  case ror => exact exec_shift_at hc (rotateRight · s.p.c) (by fin_cases hq <;> rfl) (shiftRight_eq _ s.p.c)

/-! ## Progress of a step (R14, R302) -/

theorem State.afterFetches_covered (n : Nat) {s : State} (h : s.covered) : (s.afterFetches n).covered := by
  induction n generalizing s with
  | zero => exact h
  | succ n ih => exact ih (State.afterFetch_covered h)

/-- Where every address has an owner, a fetch fails on an undefined opcode only. -/
theorem fetchInstr_error_of_covered {s : State} (hc : s.covered) {f : Fault} (h : fetchInstr s = .error f) :
    (decodeOpcode (s.byteAt s.pc)).isNone = true ∧ f = .illegalOpcode s.pc (s.byteAt s.pc) := by
  have hc1 := State.afterFetch_covered hc
  simp only [fetchInstr, fetch8_of_covered hc, bind, Except.bind] at h
  split at h
  case h_1 hop => exact ⟨by rw [hop]; rfl, (Except.error.inj h).symm⟩
  case h_2 => simp [pure, Except.pure] at h
  case h_3 => simp [fetch8_of_covered hc1, pure, Except.pure] at h
  case h_4 => simp [fetch16_of_covered hc1, pure, Except.pure] at h

/-- Settles O52, by the cases of `step_cases`: the reset sequence, an entry and an instruction complete where every address has an
owner, so only the fetch can stop the machine. -/
theorem stepProgressesUnlessIllegal : Obligations.StepProgressesUnlessIllegal := by
  intro s hc
  rcases step_cases s with ⟨-, h⟩ | ⟨-, -, h⟩ | ⟨-, -, -, -, h⟩ | ⟨hq, ⟨f, hf, h⟩ | ⟨i, t, hf, h⟩⟩
  · exact .inl ⟨_, h.trans (outcome_next.mpr (resetSequence_of_covered hc))⟩
  · have hc' : (s.setNmiPending false).covered := State.covered_congr rfl hc
    exact .inl ⟨_, h.trans (outcome_next.mpr (enter_of_covered hc' _ nmiVector))⟩
  · exact .inl ⟨_, h.trans (outcome_next.mpr (enter_of_covered hc _ irqVector))⟩
  · obtain ⟨hop, rfl⟩ := fetchInstr_error_of_covered hc hf
    exact .inr ⟨hq, hop, h⟩
  · obtain ⟨n, -, rfl⟩ := fetchInstr_ok hf
    exact .inl ⟨_, h.trans (exec_of_covered (State.afterFetches_covered n hc) i)⟩

end Sys2Proof.Machine
end

section
/-! The proofs for 10_state.md: the shapes an instruction can have, and from them what no instruction touches (R20, R305), which
registers and flags each may change (R21 to R26) and that D influences nothing else (R198); the status byte and the result flags
(R30 to R37); the stack and the returns that undo it (R40 to R45, R247, R248). -/

namespace Sys2Proof.Machine

/-! ## The shapes of the instructions

The operations by mnemonic, then the eight ways in which an instruction puts one to work. A statement over all instructions needs
one argument for each operation and one for each shape. -/

/-- `ReadOp m g`: an instruction of mnemonic `m` reads its operand once and leaves `g` of the state after the read and the byte. -/
inductive ReadOp : Mnemonic → (State → Byte → State) → Prop
  | lda : ReadOp .lda State.loadA
  | ldx : ReadOp .ldx State.loadX
  | ldy : ReadOp .ldy State.loadY
  | adc : ReadOp .adc State.addToA
  | sbc : ReadOp .sbc State.subFromA
  | and : ReadOp .and State.andA
  | ora : ReadOp .ora State.oraA
  | eor : ReadOp .eor State.eorA
  | cmp : ReadOp .cmp State.cmpA
  | cpx : ReadOp .cpx State.cmpX
  | cpy : ReadOp .cpy State.cmpY
  | bit : ReadOp .bit State.bitA

/-- `StoreOp m reg`: an instruction of mnemonic `m` writes the register `reg` at its effective address. -/
inductive StoreOp : Mnemonic → (State → Byte) → Prop
  | sta : StoreOp .sta State.a
  | stx : StoreOp .stx State.x
  | sty : StoreOp .sty State.y

/-- `ShiftOp m op f`: an instruction of mnemonic `m` runs `op` on its Reference, which shifts or rotates the byte there by `f` of
the byte and the carry. -/
inductive ShiftOp : Mnemonic → (Ref → State → Except Fault State) → (Byte → Bool → Byte × Bool) → Prop
  | asl : ShiftOp .asl opAsl fun b _ => shiftLeft b false
  | lsr : ShiftOp .lsr opLsr fun b _ => shiftRight b false
  | rol : ShiftOp .rol opRol rotateLeft
  | ror : ShiftOp .ror opRor rotateRight

/-- `ModifyOp m op w k`: an instruction of mnemonic `m` runs `op` on its Reference, which writes back `w` of the byte read and the
carry and leaves the flags `k` makes of the flags and that byte. -/
inductive ModifyOp : Mnemonic → (Ref → State → Except Fault State) → (Byte → Bool → Byte) → (Flags → Byte → Flags) → Prop
  | inc : ModifyOp .inc opInc (fun b _ => b + 1) fun p b => logical p (b + 1)
  | dec : ModifyOp .dec opDec (fun b _ => b - 1) fun p b => logical p (b - 1)
  | shift {m op f} (h : ShiftOp m op f) : ModifyOp m op (fun b c => (f b c).1) fun p b => shiftFlags p (f b p.c)

/-- `BranchOp m taken`: a branch of mnemonic `m` is taken where `taken` holds of the flags. -/
inductive BranchOp : Mnemonic → (Flags → Bool) → Prop
  | bcc : BranchOp .bcc fun p => !p.c
  | bcs : BranchOp .bcs Flags.c
  | beq : BranchOp .beq Flags.z
  | bne : BranchOp .bne fun p => !p.z
  | bmi : BranchOp .bmi Flags.n
  | bpl : BranchOp .bpl fun p => !p.n
  | bvc : BranchOp .bvc fun p => !p.v
  | bvs : BranchOp .bvs Flags.v

/-- `RegisterOp m g`: an instruction of mnemonic `m` makes no bus access and leaves `g` of the state. -/
inductive RegisterOp : Mnemonic → (State → State) → Prop
  | tax : RegisterOp .tax fun s => s.loadX s.a
  | tay : RegisterOp .tay fun s => s.loadY s.a
  | txa : RegisterOp .txa fun s => s.loadA s.x
  | tya : RegisterOp .tya fun s => s.loadA s.y
  | txs : RegisterOp .txs fun s => s.setSp s.x
  | tsx : RegisterOp .tsx fun s => s.loadX s.sp
  | inx : RegisterOp .inx fun s => s.loadX (s.x + 1)
  | iny : RegisterOp .iny fun s => s.loadY (s.y + 1)
  | dex : RegisterOp .dex fun s => s.loadX (s.x - 1)
  | dey : RegisterOp .dey fun s => s.loadY (s.y - 1)
  | clc : RegisterOp .clc fun s => s.setP { s.p with c := false }
  | sec : RegisterOp .sec fun s => s.setP { s.p with c := true }
  | cld : RegisterOp .cld fun s => s.setP { s.p with d := false }
  | sed : RegisterOp .sed fun s => s.setP { s.p with d := true }
  | cli : RegisterOp .cli fun s => s.setP { s.p with i := false }
  | sei : RegisterOp .sei fun s => s.setP { s.p with i := true }
  | clv : RegisterOp .clv fun s => s.setP { s.p with v := false }
  | jmp (d16 : Word) : RegisterOp .jmp fun s => s.setPc d16
  | nop : RegisterOp .nop fun s => s

/-- `AccessOp m op g`: an instruction of mnemonic `m` runs `op`, which accesses the stack or reads a pointer, and leaves `g` of the
state where it completes. -/
inductive AccessOp : Mnemonic → (State → Except Fault State) → (State → State) → Prop
  | jmp (d16 : Word) : AccessOp .jmp (opJmpInd d16) fun s => (s.touchWord d16).setPc (s.wordAt d16)
  | jsr (d16 : Word) : AccessOp .jsr (opJsr d16) fun s => (s.pushWord (s.pc - 1)).setPc d16
  | rts : AccessOp .rts opRts fun s => s.popWord.setPc (s.topWord + 1)
  | rti : AccessOp .rti returnFromEntry State.returned
  | pha : AccessOp .pha (fun s => push8 s.a s) fun s => s.push s.a
  | php : AccessOp .php (fun s => push8 (instructionValue s.p) s) fun s => s.push (instructionValue s.p)
  | pla : AccessOp .pla opPla fun s => s.pop.loadA s.top
  | plp : AccessOp .plp opPlp fun s => s.pop.setP (assign s.top)
  | brk : AccessOp .brk opBrk fun s => (s.setPc (s.pc + 1)).entered (instructionValue s.p) irqVector

/-- `Shape i`: how the instruction `i` executes and what it leaves where it completes, in one of eight shapes. -/
inductive Shape (i : Instr) : Prop
  | immediate {m g} (b : Byte) (hm : i.mnemonic = m) (h : ReadOp m g) (he : ∀ s, exec i s = .next (g s b))
      (hr : ∀ s, i.result s = g s b)
  | operand {m g f} (hm : i.mnemonic = m) (hf : i.memForm = some f) (h : ReadOp m g)
      (he : ∀ s, exec i s = onValue f (readThen g) s) (hr : ∀ s, i.result s = g (s.afterOperand f) (s.operand f))
  | store {m reg f} (hm : i.mnemonic = m) (hf : i.memForm = some f) (h : StoreOp m reg)
      (he : ∀ s, exec i s = onMemory f (fun r s => refWrite r (reg s) s) s)
      (hr : ∀ s, i.result s = (s.afterMode f).store (s.effective f) (reg s))
  | modify {m op w k f} (hm : i.mnemonic = m) (hf : i.memForm = some f) (h : ModifyOp m op w k)
      (he : ∀ s, exec i s = onMemory f op s) (hr : ∀ s, i.result s = s.modified f (w · s.p.c) k)
  | shiftA {m op f} (hm : i.mnemonic = m) (ha : i.mode = .acc) (h : ShiftOp m op f) (he : ∀ s, exec i s = outcome (op .acc s))
      (hr : ∀ s, i.result s = (s.setA (f s.a s.p.c).1).setP (shiftFlags s.p (f s.a s.p.c)))
  | branch {m taken} (d8 : Byte) (hm : i.mnemonic = m) (h : BranchOp m taken)
      (he : ∀ s, exec i s = .next (branchIf (taken s.p) d8 s)) (hr : ∀ s, i.result s = branchIf (taken s.p) d8 s)
  | register {m g} (hm : i.mnemonic = m) (h : RegisterOp m g) (he : ∀ s, exec i s = .next (g s)) (hr : ∀ s, i.result s = g s)
  | access {m op g} (hm : i.mnemonic = m) (h : AccessOp m op g) (he : ∀ s, exec i s = outcome (op s))
      (hr : ∀ s, i.result s = g s)

/-- Every instruction has one of the eight shapes: this is `exec` and `Instr.result` read off constructor by constructor. -/
theorem exec_shape (i : Instr) : Shape i := by
  cases i with
  | ldaImm b | ldxImm b | ldyImm b | adcImm b | sbcImm b | andImm b | oraImm b | eorImm b | cmpImm b | cpxImm b | cpyImm b =>
    exact .immediate b rfl (by constructor) (by intro; rfl) (by intro; rfl)
  | ldaZp | ldaZpx | ldaAbs | ldaAbx | ldaAby | ldaIzx | ldaIzy | ldxZp | ldxZpy | ldxAbs | ldxAby | ldyZp | ldyZpx | ldyAbs
  | ldyAbx | adcZp | adcZpx | adcAbs | adcAbx | adcAby | adcIzx | adcIzy | sbcZp | sbcZpx | sbcAbs | sbcAbx | sbcAby | sbcIzx
  | sbcIzy | andZp | andZpx | andAbs | andAbx | andAby | andIzx | andIzy | oraZp | oraZpx | oraAbs | oraAbx | oraAby | oraIzx
  | oraIzy | eorZp | eorZpx | eorAbs | eorAbx | eorAby | eorIzx | eorIzy | cmpZp | cmpZpx | cmpAbs | cmpAbx | cmpAby | cmpIzx
  | cmpIzy | cpxZp | cpxAbs | cpyZp | cpyAbs | bitZp | bitAbs =>
    exact .operand rfl rfl (by constructor) (by intro; rfl) (by intro; rfl)
  | staZp | staZpx | staAbs | staAbx | staAby | staIzx | staIzy | stxZp | stxZpy | stxAbs | styZp | styZpx | styAbs =>
    exact .store rfl rfl (by constructor) (by intro; rfl) (by intro; rfl)
  | incZp | incZpx | incAbs | incAbx | decZp | decZpx | decAbs | decAbx =>
    exact .modify rfl rfl (by constructor) (by intro; rfl) (by intro; rfl)
  | aslZp | aslZpx | aslAbs | aslAbx | lsrZp | lsrZpx | lsrAbs | lsrAbx | rolZp | rolZpx | rolAbs | rolAbx | rorZp | rorZpx
  | rorAbs | rorAbx =>
    exact .modify rfl rfl (.shift (by constructor)) (by intro; rfl) (by intro; rfl)
  | aslAcc | lsrAcc | rolAcc | rorAcc => exact .shiftA rfl rfl (by constructor) (by intro; rfl) (by intro; rfl)
  | bcc d8 | bcs d8 | beq d8 | bne d8 | bmi d8 | bpl d8 | bvc d8 | bvs d8 =>
    exact .branch d8 rfl (by constructor) (by intro; rfl) (by intro; rfl)
  | tax | tay | txa | tya | txs | tsx | inx | iny | dex | dey | clc | sec | cld | sed | cli | sei | clv | nop =>
    exact .register rfl (by constructor) (by intro; rfl) (by intro; rfl)
  | jmpAbs d16 => exact .register rfl (.jmp d16) (by intro; rfl) (by intro; rfl)
  | jmpInd d16 => exact .access rfl (.jmp d16) (by intro; rfl) (by intro; rfl)
  | jsr d16 => exact .access rfl (.jsr d16) (by intro; rfl) (by intro; rfl)
  | rts | rti | pha | php | pla | plp | brk => exact .access rfl (by constructor) (by intro; rfl) (by intro; rfl)

/-! ## Configuration, inputs and device windows (R20, R66, R305) -/

/-- `t` has the configuration and the inputs of `s`, and its windows are those of `s` after some accesses (R20, R66, R305). -/
def State.extendedBy (s t : State) : Prop :=
  t.resetPending = s.resetPending ∧ t.nmiPending = s.nmiPending ∧ t.irqLine = s.irqLine ∧ t.devices = s.devices ∧
    t.cart.image = s.cart.image ∧ s.ppu.extendedBy t.ppu ∧ s.io.extendedBy t.io ∧ s.cart.low.extendedBy t.cart.low

/-- After `setA`, `setP` and the other changes of registers or RAM the statement is, by unfolding, the one about the state before:
below, `exact h` closes such goals. -/
theorem State.extendedBy_refl (s : State) : s.extendedBy s :=
  ⟨rfl, rfl, rfl, rfl, rfl, Port.extendedBy_refl _, Port.extendedBy_refl _, Port.extendedBy_refl _⟩

theorem State.extendedBy_trans {s t u : State} (h : s.extendedBy t) (k : t.extendedBy u) : s.extendedBy u := by
  obtain ⟨h1, h2, h3, h4, h5, h6, h7, h8⟩ := h
  obtain ⟨k1, k2, k3, k4, k5, k6, k7, k8⟩ := k
  exact ⟨k1.trans h1, k2.trans h2, k3.trans h3, k4.trans h4, k5.trans h5, Port.extendedBy_trans h6 k6,
    Port.extendedBy_trans h7 k7, Port.extendedBy_trans h8 k8⟩

section
variable {s u : State} (h : s.extendedBy u)
include h

theorem State.touch_extends (a : Word) : s.extendedBy (u.touch a) :=
  State.extendedBy_trans h ⟨by simp, by simp, by simp, by simp, by simp, State.touch_ports u a⟩

theorem State.store_extends (a : Word) (v : Byte) : s.extendedBy (u.store a v) :=
  State.extendedBy_trans h ⟨by simp, by simp, by simp, by simp, by simp, State.store_ports u a v⟩

theorem State.touchWord_extends (a : Word) : s.extendedBy (u.touchWord a) := State.touch_extends (State.touch_extends h a) _

theorem State.push_extends (b : Byte) : s.extendedBy (u.push b) := State.store_extends h _ b

theorem State.pop_extends : s.extendedBy u.pop := State.touch_extends (u := u.setSp (u.sp + 1)) h _

theorem State.entered_extends (status : Byte) (vector : Word) : s.extendedBy (u.entered status vector) :=
  State.touchWord_extends (u := u.saved status) (State.push_extends (State.push_extends (State.push_extends h _) _) status) vector

theorem State.afterMode_extends (f : MemForm) : s.extendedBy (u.afterMode f) := by
  unfold State.afterMode
  split
  · exact h
  · exact State.touchWord_extends h _

theorem State.afterOperand_extends (f : MemForm) : s.extendedBy (u.afterOperand f) :=
  State.touch_extends (State.afterMode_extends h f) _

theorem State.afterFetches_extends (n : Nat) : s.extendedBy (u.afterFetches n) := by
  induction n generalizing u with
  | zero => exact h
  | succ n ih => exact ih (u := u.afterFetch) (State.touch_extends h _)

end

/-- The reset step clears the two requests and accesses the bus only for its vector. -/
theorem State.resetDone_extends (s : State) : ((s.setResetPending false).setNmiPending false).extendedBy s.resetDone := by
  obtain ⟨-, -, hrest⟩ := State.touchWord_extends
    (State.extendedBy_refl ((s.setSp 0xFF).setP { s.p with i := Config.resetI })) resetVector
  exact ⟨rfl, rfl, hrest⟩

theorem ReadOp.extends {m : Mnemonic} {g : State → Byte → State} (hg : ReadOp m g) {s u : State} (h : s.extendedBy u)
    (b : Byte) : s.extendedBy (g u b) := by
  cases hg <;> exact h

theorem RegisterOp.extends {m : Mnemonic} {g : State → State} (hg : RegisterOp m g) (s : State) : s.extendedBy (g s) := by
  cases hg <;> exact State.extendedBy_refl s

theorem branchIf_eq_setPc (taken : Bool) (d8 : Byte) (s : State) :
    branchIf taken d8 s = s.setPc (if taken then relTarget d8 s else s.pc) := by
  cases taken <;> rfl

theorem AccessOp.extends {m : Mnemonic} {op : State → Except Fault State} {g : State → State} (hg : AccessOp m op g)
    (s : State) : s.extendedBy (g s) := by
  have h := State.extendedBy_refl s
  cases hg with
  | jmp d16 => exact State.touchWord_extends h d16
  | jsr d16 => exact State.push_extends (State.push_extends h _) _
  | rts => exact State.pop_extends (State.pop_extends h)
  | rti => exact State.pop_extends (State.pop_extends (u := s.pop.setP _) (State.pop_extends h))
  | pha | php => exact State.push_extends h _
  | pla | plp => exact State.pop_extends h
  | brk => exact State.entered_extends (u := s.setPc (s.pc + 1)) h _ irqVector

/-- An instruction leaves the configuration and the inputs alone and only accesses the windows. -/
theorem result_extends (i : Instr) (s : State) : s.extendedBy (i.result s) := by
  have hs := State.extendedBy_refl s
  cases exec_shape i with
  | immediate b _ h _ hr => exact hr s ▸ h.extends hs b
  | operand _ _ h _ hr => exact hr s ▸ h.extends (State.afterOperand_extends hs _) _
  | store _ _ _ _ hr => exact hr s ▸ State.store_extends (State.afterMode_extends hs _) _ _
  | modify _ _ _ _ hr =>
    rw [hr s]
    exact State.store_extends (State.afterOperand_extends hs _) _ _
  | shiftA _ _ _ _ hr => exact hr s ▸ hs
  | branch _ _ _ _ hr => exact hr s ▸ branchIf_eq_setPc _ _ s ▸ hs
  | register _ h _ hr => exact hr s ▸ h.extends s
  | access _ h _ hr => exact hr s ▸ h.extends s

/-- Settles O47: `result_extends` of the state the instruction leaves. -/
theorem instructionsLeaveTheInputsAlone : Obligations.InstructionsLeaveTheInputsAlone := by
  intro i s t h
  obtain rfl := exec_next h
  exact result_extends i s

/-- Everything a step that completes can leave. -/
theorem step_next {s t : State} (h : step s = .next t) :
    (s.resetPending = true ∧ t = s.resetDone) ∨
      (s.resetPending = false ∧ s.nmiPending = true ∧ t = (s.setNmiPending false).entered (interruptValue s.p) nmiVector) ∨
      (s.resetPending = false ∧ s.nmiPending = false ∧ s.irqLine = true ∧ s.p.i = false ∧
        t = s.entered (interruptValue s.p) irqVector) ∨
      (s.quiet ∧ ∃ i n, n ≤ 3 ∧ fetchInstr s = .ok (i, s.afterFetches n) ∧ t = i.result (s.afterFetches n)) := by
  rcases step_cases s with ⟨hr, hs⟩ | ⟨hr, hn, hs⟩ | ⟨hr, hn, hq, hi, hs⟩ | ⟨hq, ⟨f, hf, hs⟩ | ⟨i, u, hf, hs⟩⟩ <;> rw [hs] at h
  · exact .inl ⟨hr, resetSequence_ok (outcome_next.mp h)⟩
  · exact .inr (.inl ⟨hr, hn, enter_ok (outcome_next.mp h)⟩)
  · exact .inr (.inr (.inl ⟨hr, hn, hq, hi, enter_ok (outcome_next.mp h)⟩))
  · cases h
  · obtain ⟨n, hn, rfl⟩ := fetchInstr_ok hf
    exact .inr (.inr (.inr ⟨hq, i, n, hn, hf, exec_next h⟩))

/-- A state that extends `s`, once requests of `s` may have been cleared. -/
theorem State.extendedBy.config {s t : State} {reset nmi : Bool} (hreset : reset = true → s.resetPending = true)
    (hnmi : nmi = true → s.nmiPending = true)
    (h : ((s.setResetPending reset).setNmiPending nmi).extendedBy t) :
    t.devices = s.devices ∧ t.cart.image = s.cart.image ∧ t.irqLine = s.irqLine ∧
      (t.resetPending = true → s.resetPending = true) ∧ (t.nmiPending = true → s.nmiPending = true) ∧
      s.ppu.extendedBy t.ppu ∧ s.io.extendedBy t.io ∧ s.cart.low.extendedBy t.cart.low := by
  obtain ⟨hr, hn, hq, hd, hi, hports⟩ := h
  exact ⟨hd, hi, hq, fun ht => hreset (hr.symm.trans ht), fun ht => hnmi (hn.symm.trans ht), hports⟩

/-- Settles O51, by the cases of `step_next`: the reset step and the NMI entry clear requests, and everything else a step does is
register changes and bus accesses. -/
theorem stepNeverChangesTheConfiguration : Obligations.StepNeverChangesTheConfiguration := by
  intro s t h
  rcases step_next h with ⟨-, rfl⟩ | ⟨-, -, rfl⟩ | ⟨-, -, -, -, rfl⟩ | ⟨-, i, n, -, -, rfl⟩
  · exact State.extendedBy.config (by simp) (by simp) (State.resetDone_extends s)
  · exact State.extendedBy.config id (by simp)
      (State.entered_extends (State.extendedBy_refl (s.setNmiPending false)) _ nmiVector)
  · exact State.extendedBy.config id id (State.entered_extends (State.extendedBy_refl s) _ irqVector)
  · exact State.extendedBy.config id id
      (State.extendedBy_trans (State.afterFetches_extends (State.extendedBy_refl s) n) (result_extends i _))

/-! ## Registers and flags (R21, R22, R24, R26) -/

/-- From `s` to `t`, only the registers `rs` and the flags `fs` may change, and PC only if `pc` says so. -/
def State.changesOnly (rs : List Reg) (fs : List Flag) (pc : Bool) (s t : State) : Prop :=
  (∀ r ∉ rs, t.reg r = s.reg r) ∧ (pc = false → t.pc = s.pc) ∧ ∀ f ∉ fs, t.p.get f = s.p.get f

/-- The same, field by field. -/
theorem State.changesOnly_iff (rs : List Reg) (fs : List Flag) (pc : Bool) (s t : State) :
    State.changesOnly rs fs pc s t ↔
      ((.a ∉ rs → t.a = s.a) ∧ (.x ∉ rs → t.x = s.x) ∧ (.y ∉ rs → t.y = s.y) ∧ (.s ∉ rs → t.sp = s.sp)) ∧
      (pc = false → t.pc = s.pc) ∧
      (.c ∉ fs → t.p.c = s.p.c) ∧ (.z ∉ fs → t.p.z = s.p.z) ∧ (.i ∉ fs → t.p.i = s.p.i) ∧ (.d ∉ fs → t.p.d = s.p.d) ∧
      (.v ∉ fs → t.p.v = s.p.v) ∧ (.n ∉ fs → t.p.n = s.p.n) := by
  refine ⟨fun ⟨hr, hpc, hf⟩ => ⟨⟨hr .a, hr .x, hr .y, hr .s⟩, hpc, hf .c, hf .z, hf .i, hf .d, hf .v, hf .n⟩, ?_⟩
  rintro ⟨⟨ha, hx, hy, hs⟩, hpc, hc, hz, hi, hd, hv, hn⟩
  exact ⟨fun | .a => ha | .x => hx | .y => hy | .s => hs, hpc,
    fun | .c => hc | .z => hz | .i => hi | .d => hd | .v => hv | .n => hn⟩

/-- A change after one that leaves the registers, PC and flags alone. -/
theorem State.changesOnly_of_none {rs : List Reg} {fs : List Flag} {pc : Bool} {s u t : State}
    (h : State.changesOnly [] [] false s u) (k : State.changesOnly rs fs pc u t) : State.changesOnly rs fs pc s t := by
  obtain ⟨hr, hpc, hf⟩ := h
  obtain ⟨kr, kpc, kf⟩ := k
  exact ⟨fun r hn => (kr r hn).trans (hr r (by simp)), fun hp => (kpc hp).trans (hpc rfl),
    fun f hn => (kf f hn).trans (hf f (by simp))⟩

theorem State.afterOperand_changesNone (s : State) (f : MemForm) : State.changesOnly [] [] false s (s.afterOperand f) := by
  simp [State.changesOnly_iff]

/-- From `s` to `t`, nothing changes but what the tables list as written by the instruction. -/
abbrev changesOnlyListed (i : Instr) (s t : State) : Prop :=
  State.changesOnly i.registersWritten i.flagsWritten i.writesPc s t

section
variable {i : Instr} {m : Mnemonic} (hm : i.mnemonic = m)
include hm

theorem ReadOp.changesOnlyListed {g : State → Byte → State} (h : ReadOp m g) (s : State) (b : Byte) :
    changesOnlyListed i s (g s b) := by
  cases h <;>
    simp [State.changesOnly_iff, Instr.registersWritten, Instr.flagsWritten, Instr.writesPc, hm, State.loadA, State.loadX,
      State.loadY, State.addToA, State.subFromA, State.andA, State.oraA, State.eorA, State.cmpA, State.cmpX, State.cmpY,
      State.bitA, logical, arithmetic, addFlags, compareFlags, bitTestFlags]

theorem ModifyOp.changesOnlyListed {op : Ref → State → Except Fault State} {w : Byte → Bool → Byte} {k : Flags → Byte → Flags}
    (h : ModifyOp m op w k) (s : State) (f : MemForm) : changesOnlyListed i s (s.modified f (w · s.p.c) k) := by
  cases h with
  | inc | dec => simp [State.changesOnly_iff, Instr.flagsWritten, Instr.writesPc, hm, State.modified, logical]
  | shift h =>
    cases h <;> simp [State.changesOnly_iff, Instr.flagsWritten, Instr.writesPc, hm, State.modified, logical, shiftFlags]

/-- A shift or rotate writes A in mode ACC. -/
theorem ShiftOp.changesOnlyListed {op : Ref → State → Except Fault State} {f : Byte → Bool → Byte × Bool}
    (h : ShiftOp m op f) (ha : i.mode = .acc) (s : State) :
    changesOnlyListed i s ((s.setA (f s.a s.p.c).1).setP (shiftFlags s.p (f s.a s.p.c))) := by
  cases h <;>
    simp [State.changesOnly_iff, Instr.registersWritten, Instr.flagsWritten, Instr.writesPc, hm, ha, logical, shiftFlags]

theorem BranchOp.changesOnlyListed {taken : Flags → Bool} (h : BranchOp m taken) (d8 : Byte) (s : State) :
    changesOnlyListed i s (branchIf (taken s.p) d8 s) := by
  have hpc : i.writesPc = true := by cases h <;> simp [Instr.writesPc, hm]
  simp [State.changesOnly_iff, branchIf_eq_setPc, hpc]

theorem RegisterOp.changesOnlyListed {g : State → State} (h : RegisterOp m g) (s : State) : changesOnlyListed i s (g s) := by
  cases h <;>
    simp [State.changesOnly_iff, Instr.registersWritten, Instr.flagsWritten, Instr.writesPc, hm, State.loadA, State.loadX,
      State.loadY, logical]

theorem AccessOp.changesOnlyListed {op : State → Except Fault State} {g : State → State} (h : AccessOp m op g) (s : State) :
    changesOnlyListed i s (g s) := by
  cases h <;>
    simp [State.changesOnly_iff, Instr.registersWritten, Instr.flagsWritten, Instr.writesPc, hm, State.loadA, State.returned,
      logical]

end

theorem result_changesOnlyListed (i : Instr) (s : State) : changesOnlyListed i s (i.result s) := by
  cases exec_shape i with
  | immediate b hm h _ hr => exact hr s ▸ h.changesOnlyListed hm s b
  | operand hm _ h _ hr =>
    rw [hr s]
    exact State.changesOnly_of_none (s.afterOperand_changesNone _) (h.changesOnlyListed hm _ _)
  | store _ _ _ _ hr => simp [hr s, State.changesOnly_iff]
  | modify hm _ h _ hr => exact hr s ▸ h.changesOnlyListed hm s _
  | shiftA hm ha h _ hr => exact hr s ▸ h.changesOnlyListed hm ha s
  | branch d8 hm h _ hr => exact hr s ▸ h.changesOnlyListed hm d8 s
  | register hm h _ hr => exact hr s ▸ h.changesOnlyListed hm s
  | access hm h _ hr => exact hr s ▸ h.changesOnlyListed hm s

theorem exec_changesOnlyListed {i : Instr} {s t : State} (h : exec i s = .next t) : changesOnlyListed i s t :=
  exec_next h ▸ result_changesOnlyListed i s

/-- Settles O45: the two clauses are the parts of `exec_changesOnlyListed`. -/
theorem registersAndFlagsChangeOnlyAsListed : Obligations.RegistersAndFlagsChangeOnlyAsListed := by
  refine ⟨fun i s t h => ?_, fun i s t h => ?_⟩ <;> obtain ⟨hr, hpc, hf⟩ := exec_changesOnlyListed h
  · exact ⟨hr, hpc⟩
  · exact hf

/-! ## The decimal flag is only carried along (R26, R198)

Two states that differ at most in D run alike: the statement is proved of every primitive, of a sequence of two computations, and so
of every shape of an instruction. -/

/-- The state with another value of D. -/
def State.withD (s : State) (d : Bool) : State := s.setP { s.p with d := d }

/-- The two states differ at most in D. -/
def State.sameButD (s u : State) : Prop := ∃ d, u = s.withD d

/-- Two computations fault alike or complete with related results. -/
inductive RunAlike {α β : Type} (R : α → β → Prop) : Except Fault α → Except Fault β → Prop
  | ok {x : α} {y : β} (h : R x y) : RunAlike R (.ok x) (.ok y)
  | error (f : Fault) : RunAlike R (.error f) (.error f)

theorem RunAlike.bind {α β γ δ : Type} {R : α → β → Prop} {S : γ → δ → Prop} {r : Except Fault α} {q : Except Fault β}
    {f : α → Except Fault γ} {g : β → Except Fault δ} (h : RunAlike R r q) (k : ∀ x y, R x y → RunAlike S (f x) (g y)) :
    RunAlike S (r >>= f) (q >>= g) := by
  cases h with
  | ok h => exact k _ _ h
  | error e => exact .error e

/-- Equal values beside states that differ at most in D. -/
def sameValue {α : Type} (x y : α × State) : Prop := x.1 = y.1 ∧ State.sameButD x.2 y.2

theorem RunAlike.bindValue {α γ δ : Type} {S : γ → δ → Prop} {r q : Except Fault (α × State)} {f : α × State → Except Fault γ}
    {g : α × State → Except Fault δ} (h : RunAlike sameValue r q)
    (k : ∀ x s u, State.sameButD s u → RunAlike S (f (x, s)) (g (x, u))) : RunAlike S (r >>= f) (q >>= g) :=
  h.bind fun ⟨x, s⟩ ⟨_, u⟩ ⟨hx, hsu⟩ => by cases hx; exact k x s u hsu

/-- Two outcomes of computations that run alike. -/
def outcomesAlike (o o' : Host.Outcome State Fault Refusal) : Prop :=
  ∃ r q, o = outcome r ∧ o' = outcome q ∧ RunAlike State.sameButD r q

theorem State.withD_touch (s : State) (d : Bool) (a : Word) : (s.withD d).touch a = (s.touch a).withD d := by
  simp [State.withD, State.setP_touch]

theorem State.withD_store (s : State) (d : Bool) (a : Word) (v : Byte) : (s.withD d).store a v = (s.store a v).withD d := by
  simp [State.withD, State.setP_store]

theorem State.setP_sameButD {s u : State} (h : s.sameButD u) (p : Flags) : (s.setP p).sameButD (u.setP p) := by
  obtain ⟨d, rfl⟩ := h
  exact ⟨p.d, rfl⟩

theorem State.setPc_sameButD {s u : State} (h : s.sameButD u) (w : Word) : (s.setPc w).sameButD (u.setPc w) := by
  obtain ⟨d, rfl⟩ := h
  exact ⟨d, rfl⟩

section
variable {s u : State} (h : s.sameButD u)
include h

theorem busRead_alike (a : Word) : RunAlike sameValue (busRead a s) (busRead a u) := by
  obtain ⟨d, rfl⟩ := h
  have hc : (s.withD d).claimed a = s.claimed a := rfl
  rw [busRead, busRead, hc, State.withD_touch]
  split
  · exact .ok ⟨rfl, d, rfl⟩
  · exact .error _

theorem busWrite_alike (a : Word) (v : Byte) : RunAlike State.sameButD (busWrite a v s) (busWrite a v u) := by
  obtain ⟨d, rfl⟩ := h
  have hc : (s.withD d).claimed a = s.claimed a := rfl
  rw [busWrite, busWrite, hc, State.withD_store]
  split
  · exact .ok ⟨d, rfl⟩
  · exact .error _

theorem readWord_alike (a : Word) : RunAlike sameValue (readWord a s) (readWord a u) :=
  (busRead_alike h a).bindValue fun _ _ _ h => (busRead_alike h _).bindValue fun _ _ _ h => .ok ⟨rfl, h⟩

theorem push8_alike (b : Byte) : RunAlike State.sameButD (push8 b s) (push8 b u) := by
  obtain ⟨d, rfl⟩ := h
  exact (busWrite_alike ⟨d, rfl⟩ _ b).bind fun s _ ⟨d, hd⟩ => .ok ⟨d, by rw [hd]; rfl⟩

theorem pull8_alike : RunAlike sameValue (pull8 s) (pull8 u) := by
  obtain ⟨d, rfl⟩ := h
  exact busRead_alike ⟨d, rfl⟩ _

theorem push16_alike (w : Word) : RunAlike State.sameButD (push16 w s) (push16 w u) :=
  (push8_alike h _).bind fun _ _ h => push8_alike h _

theorem pull16_alike : RunAlike sameValue (pull16 s) (pull16 u) :=
  (pull8_alike h).bindValue fun _ _ _ h => (pull8_alike h).bindValue fun _ _ _ h => .ok ⟨rfl, h⟩

theorem resolve_alike (f : MemForm) : RunAlike sameValue (resolve f s) (resolve f u) := by
  obtain ⟨d, rfl⟩ := h
  have hp : f.pointer (s.withD d) = f.pointer s := by cases f <;> rfl
  have ha (w : Word) : f.address (s.withD d) w = f.address s w := by cases f <;> rfl
  unfold resolve
  rw [hp]
  split
  · exact .ok ⟨ha 0, d, rfl⟩
  · exact (readWord_alike ⟨d, rfl⟩ _).bindValue fun w _ _ h => .ok ⟨(ha w).symm, h⟩

theorem onMemory_alike (f : MemForm) {op : Ref → State → Except Fault State}
    (k : ∀ a s u, State.sameButD s u → RunAlike State.sameButD (op (.mem a) s) (op (.mem a) u)) :
    outcomesAlike (onMemory f op s) (onMemory f op u) :=
  ⟨_, _, rfl, rfl, (resolve_alike h f).bindValue k⟩

theorem refRead_alike (r : Ref) : RunAlike sameValue (refRead r s) (refRead r u) := by
  cases r with
  | acc =>
    obtain ⟨d, rfl⟩ := h
    exact .ok ⟨rfl, d, rfl⟩
  | mem a => exact busRead_alike h a

theorem refWrite_alike (r : Ref) (v : Byte) : RunAlike State.sameButD (refWrite r v s) (refWrite r v u) := by
  cases r with
  | acc =>
    obtain ⟨d, rfl⟩ := h
    exact .ok ⟨d, rfl⟩
  | mem a => exact busWrite_alike h a v

theorem modify_alike (r : Ref) (w : Byte → Byte) {k : Flags → Byte → Flags}
    (hk : ∀ p b d, k { p with d := d } b = { k p b with d := d }) :
    RunAlike State.sameButD (modify w k r s) (modify w k r u) :=
  (refRead_alike h r).bindValue fun b _ _ h => (refWrite_alike h r (w b)).bind fun s _ ⟨d, hd⟩ =>
    .ok ⟨d, by rw [hd]; exact congrArg s.setP (hk s.p b d)⟩

theorem returnFromEntry_alike : RunAlike State.sameButD (returnFromEntry s) (returnFromEntry u) := by
  refine (pull8_alike h).bindValue fun b s u h => ?_
  have h' : (s.setP (assign b)).sameButD (u.setP (assign b)) := State.setP_sameButD h _
  exact (pull16_alike h').bindValue fun w _ _ h => .ok (State.setPc_sameButD h w)

end

/-- A shift or rotate of a Reference is a `modify` by the carry it starts with. -/
theorem ShiftOp.op_eq {m : Mnemonic} {op : Ref → State → Except Fault State} {f : Byte → Bool → Byte × Bool}
    (h : ShiftOp m op f) (r : Ref) (s : State) :
    op r s = modify (fun b => (f b s.p.c).1) (fun p b => shiftFlags p (f b s.p.c)) r s := by
  cases h <;> rfl

section
variable {m : Mnemonic} {s u : State} (h : s.sameButD u)
include h

theorem ReadOp.sameButD {g : State → Byte → State} (hg : ReadOp m g) (b : Byte) : (g s b).sameButD (g u b) := by
  obtain ⟨d, rfl⟩ := h
  cases hg <;> exact ⟨d, rfl⟩

/-- CLD and SED leave D the same whatever it was; the others carry it along. -/
theorem RegisterOp.sameButD {g : State → State} (hg : RegisterOp m g) : (g s).sameButD (g u) := by
  obtain ⟨d, rfl⟩ := h
  cases hg with
  | cld => exact ⟨false, rfl⟩
  | sed => exact ⟨true, rfl⟩
  | _ => exact ⟨d, rfl⟩

/-- No branch is taken on D. -/
theorem BranchOp.sameButD {taken : Flags → Bool} (hb : BranchOp m taken) (d8 : Byte) :
    (branchIf (taken s.p) d8 s).sameButD (branchIf (taken u.p) d8 u) := by
  obtain ⟨d, rfl⟩ := h
  rw [branchIf_eq_setPc, branchIf_eq_setPc]
  cases hb <;> exact ⟨d, rfl⟩

theorem StoreOp.alike {reg : State → Byte} (hreg : StoreOp m reg) (a : Word) :
    RunAlike State.sameButD (busWrite a (reg s) s) (busWrite a (reg u) u) := by
  have hr : reg u = reg s := by obtain ⟨d, rfl⟩ := h; cases hreg <;> rfl
  exact hr ▸ busWrite_alike h a (reg s)

theorem ShiftOp.alike {op : Ref → State → Except Fault State} {f : Byte → Bool → Byte × Bool} (hf : ShiftOp m op f) (r : Ref) :
    RunAlike State.sameButD (op r s) (op r u) := by
  have hc : u.p.c = s.p.c := by obtain ⟨d, rfl⟩ := h; rfl
  rw [hf.op_eq, hf.op_eq, hc]
  exact modify_alike h r _ fun _ _ _ => rfl

theorem ModifyOp.alike {op : Ref → State → Except Fault State} {w : Byte → Bool → Byte} {k : Flags → Byte → Flags}
    (hw : ModifyOp m op w k) (r : Ref) : RunAlike State.sameButD (op r s) (op r u) := by
  cases hw with
  | inc => exact modify_alike h r (· + 1) (k := fun p b => logical p (b + 1)) fun _ _ _ => rfl
  | dec => exact modify_alike h r (· - 1) (k := fun p b => logical p (b - 1)) fun _ _ _ => rfl
  | shift hf => exact hf.alike h r

/-- Of the instructions that use the stack, only PHP and BRK push the flags. -/
theorem AccessOp.alike {op : State → Except Fault State} {g : State → State} (hop : AccessOp m op g) (hphp : m ≠ .php)
    (hbrk : m ≠ .brk) : RunAlike State.sameButD (op s) (op u) := by
  have ha : u.a = s.a := by obtain ⟨d, rfl⟩ := h; rfl
  have hpc : u.pc = s.pc := by obtain ⟨d, rfl⟩ := h; rfl
  cases hop with
  | jmp d16 => exact (readWord_alike h d16).bindValue fun w _ _ h => .ok (State.setPc_sameButD h w)
  | jsr d16 =>
    rw [opJsr, opJsr, hpc]
    exact (push16_alike h (s.pc - 1)).bind fun _ _ h => .ok (State.setPc_sameButD h d16)
  | rts => exact (pull16_alike h).bindValue fun w _ _ h => .ok (State.setPc_sameButD h (w + 1))
  | rti => exact returnFromEntry_alike h
  | pha =>
    show RunAlike _ (push8 s.a s) (push8 u.a u)
    exact ha ▸ push8_alike h s.a
  | php => exact absurd rfl hphp
  | pla => exact (pull8_alike h).bindValue fun b _ _ h => .ok (ReadOp.lda.sameButD h b)
  | plp => exact (pull8_alike h).bindValue fun b _ _ h => .ok (State.setP_sameButD h (assign b))
  | brk => exact absurd rfl hbrk

theorem exec_alike (i : Instr) (hphp : i.mnemonic ≠ .php) (hbrk : i.mnemonic ≠ .brk) :
    outcomesAlike (exec i s) (exec i u) := by
  cases exec_shape i with
  | immediate b _ hg he _ =>
    rw [he, he]
    exact ⟨.ok _, .ok _, rfl, rfl, .ok (hg.sameButD h b)⟩
  | operand _ _ hg he _ =>
    rw [he, he]
    exact onMemory_alike h _ fun a _ _ h => (busRead_alike h a).bindValue fun b _ _ h => .ok (hg.sameButD h b)
  | store _ _ hreg he _ =>
    rw [he, he]
    exact onMemory_alike h _ fun a _ _ h => hreg.alike h a
  | modify _ _ hw he _ =>
    rw [he, he]
    exact onMemory_alike h _ fun a _ _ h => hw.alike h (.mem a)
  | shiftA _ _ hf he _ =>
    rw [he, he]
    exact ⟨_, _, rfl, rfl, hf.alike h .acc⟩
  | branch d8 _ hb he _ =>
    rw [he, he]
    exact ⟨.ok _, .ok _, rfl, rfl, .ok (hb.sameButD h d8)⟩
  | register _ hg he _ =>
    rw [he, he]
    exact ⟨.ok _, .ok _, rfl, rfl, .ok (hg.sameButD h)⟩
  | access hm hop he _ =>
    rw [he, he]
    exact ⟨_, _, rfl, rfl, hop.alike h (hm ▸ hphp) (hm ▸ hbrk)⟩

end

/-- Settles O53: the two executions run alike, so where one completes the other does, and D is all they can differ in. -/
theorem decimalFlagIsOnlyCarriedAlong : Obligations.DecimalFlagIsOnlyCarriedAlong := by
  intro i s t d hphp hbrk h
  obtain ⟨r, q, hr, hq, hrq⟩ := exec_alike (⟨d, rfl⟩ : s.sameButD (s.withD d)) i hphp hbrk
  rw [h] at hr
  cases hrq with
  | error f => simp [outcome] at hr
  | @ok _ u hrq =>
    obtain rfl := Host.Outcome.next.inj hr
    obtain ⟨d', rfl⟩ := hrq
    exact ⟨_, hq, rfl⟩

/-! ## The packed status byte (R30 to R33, R37) -/

/-- The six flags stand at bits 0, 1, 2, 3, 6, 7 of the packed byte; bits 4 and 5 are clear. -/
theorem pack_getLsbD (p : Flags) {k : Nat} (hk : k < 8) :
    (pack p).getLsbD k = [p.c, p.z, p.i, p.d, false, false, p.v, p.n].getD k false := by
  obtain ⟨c, z, i, d, v, n⟩ := p
  revert k c z i d v n
  decide

theorem pack_toNat (p : Flags) :
    (pack p).toNat = p.c.toNat + 2 * p.z.toNat + 4 * p.i.toNat + 8 * p.d.toNat + 64 * p.v.toNat + 128 * p.n.toNat := by
  obtain ⟨c, z, i, d, v, n⟩ := p
  revert c z i d v n
  decide

/-- Only the bits of the six flags survive assigning a byte and packing again. -/
theorem pack_assign (b : Byte) : pack (assign b) = b &&& 0xCF := by
  apply BitVec.eq_of_getLsbD_eq
  intro k hk
  rw [pack_getLsbD _ hk, BitVec.getLsbD_and]
  interval_cases k <;> simp [assign, bitOf]

/-- Assigning the byte an instruction pushes gives the flags back. -/
theorem assign_instructionValue (p : Flags) : assign (instructionValue p) = p := by
  simp [-BitVec.getLsbD_eq_getElem, assign, bitOf, instructionValue, pack_getLsbD]

/-- So does assigning the byte an interrupt pushes. -/
theorem assign_interruptValue (p : Flags) : assign (interruptValue p) = p := by
  simp [-BitVec.getLsbD_eq_getElem, assign, bitOf, interruptValue, pack_getLsbD]

/-- Settles O12: the bits of `pack`, and `pack_assign` with the forced bits put on top. -/
theorem statusBytePackingRoundTrips : Obligations.StatusBytePackingRoundTrips := by
  refine ⟨fun p => ⟨pack_toNat p, pack_getLsbD p (k := 4) (by decide), pack_getLsbD p (k := 5) (by decide)⟩,
    fun b => ⟨rfl, ?_, ?_, ?_⟩⟩
  · rw [instructionValue, pack_assign]
  · rw [interruptValue, pack_assign]
  · simp [-BitVec.getLsbD_eq_getElem, instructionValue, interruptValue, pack_getLsbD]

/-! ## The result flags (R34, R35) -/

theorem sign_ofNat (n : Nat) : sign (BitVec.ofNat 8 n) = decide (128 ≤ n % 256) := by
  rw [sign_eq, BitVec.toNat_ofNat]

theorem ofNat_eq_zero_iff (n : Nat) : BitVec.ofNat 8 n = 0 ↔ n % 256 = 0 := by
  rw [← BitVec.toNat_inj, BitVec.toNat_ofNat]
  rfl

theorem arithmetic_eq (p : Flags) (r : Nat) :
    arithmetic p r = { p with z := decide (r % 256 = 0), n := decide (128 ≤ r % 256), c := decide (255 < r) } := by
  simp only [arithmetic, logical, sign_ofNat, ofNat_eq_zero_iff]

/-- Settles O13: `arithmetic_eq`, and for ASL the bit shifted out is the carry of the doubled byte. -/
theorem resultFlagsFollowTheLowByte : Obligations.ResultFlagsFollowTheLowByte := by
  refine ⟨fun _ _ => rfl, arithmetic_eq, fun _ _ _ => rfl, fun p m => ?_, fun p m => ⟨?_, rfl⟩⟩
  · have hcarry : m.getLsbD 7 = decide (255 < m.toNat * 2) := by
      rw [← bitOf, ← sign, sign_eq]
      exact decide_eq_decide.mpr (by omega)
    rw [shiftLeft_eq, shiftFlags, arithmetic, hcarry]
    rfl
  · exact decide_eq_false (by omega)

/-! ## Transfers, increments of a register, flag instructions (R176 to R181, R194 to R197, R255 to R261) -/

/-- Settles O32: these instructions touch no bus, and each equation is its meaning. -/
theorem registerAndFlagInstructions : Obligations.RegisterAndFlagInstructions :=
  ⟨fun _ => ⟨rfl, rfl, rfl, rfl, rfl, rfl⟩, fun _ => ⟨rfl, rfl, rfl, rfl⟩, fun _ => ⟨rfl, rfl, rfl, rfl, rfl, rfl, rfl⟩⟩

/-! ## Bitwise instructions and BIT (R210 to R212, R217) -/

/-- An instruction in a memory mode that combines A with its operand by `op`, where every address has an owner. -/
theorem exec_bitwise_at {s : State} (hc : s.covered) {i : Instr} {f : MemForm} (op : Byte → Byte → Byte)
    (hi : i.result s = (s.afterOperand f).loadA (op (s.afterOperand f).a (s.operand f))) :
    exec i s = .next (Claims.resultInA (s.afterOperand f) (op s.a (s.operand f))) := by
  rw [exec_of_covered hc, hi, State.afterOperand_a]
  rfl

/-- Settles O36: AND, ORA and EOR are `exec_bitwise_at` of their operation; BIT writes flags only. -/
theorem bitwiseInstructionsAndBit : Obligations.BitwiseInstructionsAndBit := by
  refine ⟨fun s d8 d16 hc => ⟨⟨rfl, fun q hq => ?and⟩, ⟨rfl, fun q hq => ?ora⟩, rfl, fun q hq => ?eor⟩,
    fun s d8 d16 hc q hq => ?bit⟩
  case and => exact exec_bitwise_at hc (· &&& ·) (by fin_cases hq <;> rfl)
  case ora => exact exec_bitwise_at hc (· ||| ·) (by fin_cases hq <;> rfl)
  case eor => exact exec_bitwise_at hc (· ^^^ ·) (by fin_cases hq <;> rfl)
  case bit =>
    have hr : q.1.result s = (s.afterOperand q.2).bitA (s.operand q.2) := by fin_cases hq <;> rfl
    rw [exec_of_covered hc, hr, State.bitA, State.afterOperand_a, State.afterOperand_p]
    rfl

/-! ## The stack (R40 to R45) -/

theorem State.pop_eq (s : State) : s.pop = (s.touch (stackAddr (s.sp + 1))).setSp (s.sp + 1) := by
  rw [State.pop, State.setSp_touch]

/-- Two pushes: both writes, then S two lower. -/
theorem State.pushWord_eq (s : State) (w : Word) :
    s.pushWord w = ((s.store (stackAddr s.sp) (high w)).store (stackAddr (s.sp - 1)) (low w)).setSp (s.sp - 1 - 1) := by
  rw [State.pushWord, State.push, State.push_sp, State.push, State.setSp_store]
  rfl

theorem State.popWord_eq (s : State) :
    s.popWord = ((s.touch (stackAddr (s.sp + 1))).touch (stackAddr (s.sp + 1 + 1))).setSp (s.sp + 1 + 1) := by
  rw [State.popWord, State.pop_eq s.pop, State.pop_sp, State.pop_eq, State.setSp_touch]
  rfl

theorem State.topWord_eq (s : State) :
    s.topWord = word ((s.touch (stackAddr (s.sp + 1))).byteAt (stackAddr (s.sp + 1 + 1))) (s.byteAt (stackAddr (s.sp + 1))) := by
  rw [State.topWord, State.top, State.pop_sp, State.pop_eq, State.setSp_byteAt, State.top]

/-- Settles O20: `push` and `pop` and their words as whole states; at S = 00 the second slot is 01FF by evaluation. -/
theorem pushAndPullMoveOneSlot : Obligations.PushAndPullMoveOneSlot := by
  intro s hc
  have hpush (w : Word) : push16 w s = .ok (((s.store (stackAddr s.sp) (high w)).store (stackAddr (s.sp - 1)) (low w)).setSp
      (s.sp - 2)) := by
    rw [push16_of_covered hc, State.pushWord_eq, show s.sp - 1 - 1 = s.sp - 2 by bv_omega]
  have htwo : s.sp + 1 + 1 = s.sp + 2 := by bv_omega
  refine ⟨push8_of_covered hc, ?_, hpush, ?_, fun h0 w => ?_⟩
  · rw [pull8_of_covered hc, State.pop_eq]
    rfl
  · rw [pull16_of_covered hc, State.popWord_eq, State.topWord_eq, htwo]
    rfl
  · rw [hpush, h0]
    rfl

/-! ## The stack page of the console lies in RAM (R45, R46) -/

theorem stackAddr_toNat (sp : Byte) : (stackAddr sp).toNat = 0x100 + sp.toNat := by
  rw [stackAddr, zext]
  bv_omega

/-- The RAM entry of the console's map (R72, R73). -/
def consoleRam : Slot := ⟨.ram, 0x0000, 0x2000, 0x0800⟩

theorem State.owner_stackAddr {s : State} (h : s.onConsole) (sp : Byte) : s.owner (stackAddr sp) = some consoleRam := by
  have hin : consoleRam.contains (stackAddr sp) = true := by
    simp only [consoleRam, Slot.contains, stackAddr_toNat, Bool.and_eq_true, decide_eq_true_eq]
    omega
  rw [State.owner, h]
  exact List.find?_cons_of_pos hin

theorem index_stackAddr (sp : Byte) : consoleRam.index (stackAddr sp) = 0x100 + sp.toNat := by
  simp only [consoleRam, Slot.index, stackAddr_toNat]
  omega

/-- Distinct slots are distinct cells, also where S wraps (R45). -/
theorem index_stackAddr_inj {k sp : Byte} : consoleRam.index (stackAddr k) = consoleRam.index (stackAddr sp) ↔ k = sp := by
  rw [index_stackAddr, index_stackAddr, Nat.add_left_cancel_iff, BitVec.toNat_inj]

section
variable {s : State} (h : s.onConsole)
include h

theorem State.byteAt_stackAddr (k : Byte) : s.byteAt (stackAddr k) = s.ram.read (consoleRam.index (stackAddr k)) :=
  State.byteAt_of_ram (State.owner_stackAddr h k) rfl

theorem State.push_of_onConsole (b : Byte) :
    s.push b = (s.setRam (s.ram.write (consoleRam.index (stackAddr s.sp)) b)).setSp (s.sp - 1) := by
  rw [State.push, State.store_of_ram b (State.owner_stackAddr h _) rfl]

theorem State.onConsole_congr {t : State} (hd : t.devices = s.devices) : t.onConsole := hd.trans h

theorem State.push_onConsole (b : Byte) : (s.push b).onConsole := State.onConsole_congr h (by simp)

/-- A push changes the one slot. -/
theorem State.push_byteAt_stackAddr (b k : Byte) :
    (s.push b).byteAt (stackAddr k) = if k = s.sp then b else s.byteAt (stackAddr k) := by
  rw [State.byteAt_stackAddr (State.push_onConsole h b), State.byteAt_stackAddr h, State.push_of_onConsole h, State.setSp_ram,
    State.setRam_ram, Memory.read_write]
  simp only [index_stackAddr_inj]

theorem State.pushWord_onConsole (w : Word) : (s.pushWord w).onConsole := State.onConsole_congr h (by simp)

/-- On the console a push of a word changes nothing but RAM and S. -/
theorem State.pushWord_of_onConsole (w : Word) : s.pushWord w = (s.setRam (s.pushWord w).ram).setSp (s.sp - 1 - 1) := by
  rw [State.pushWord, State.push_of_onConsole (State.push_onConsole h _), State.push_of_onConsole h]
  rfl

theorem State.pushWord_slot_high (w : Word) : (s.pushWord w).byteAt (stackAddr s.sp) = high w := by
  have hne : s.sp ≠ s.sp - 1 := by bv_omega
  rw [State.pushWord, State.push_byteAt_stackAddr (State.push_onConsole h _), State.push_sp, if_neg hne,
    State.push_byteAt_stackAddr h, if_pos rfl]

theorem State.pushWord_slot_low (w : Word) : (s.pushWord w).byteAt (stackAddr (s.sp - 1)) = low w := by
  rw [State.pushWord, State.push_byteAt_stackAddr (State.push_onConsole h _), State.push_sp, if_pos rfl]

/-- A read, of whatever device, changes no slot. -/
theorem State.touchWord_byteAt_stackAddr (a : Word) (k : Byte) : (s.touchWord a).byteAt (stackAddr k) = s.byteAt (stackAddr k) := by
  rw [State.byteAt_stackAddr (State.onConsole_congr h (by simp)), State.byteAt_stackAddr h, State.touchWord_ram]

theorem State.pop_of_onConsole : s.pop = s.setSp (s.sp + 1) := by
  rw [State.pop_eq, State.touch_of_ram (State.owner_stackAddr h _) rfl]

theorem State.popWord_of_onConsole : s.popWord = s.setSp (s.sp + 1 + 1) := by
  rw [State.popWord, State.pop_of_onConsole h, State.pop_of_onConsole (s := s.setSp (s.sp + 1)) h]
  rfl

/-- The word pulled is the one whose high byte lies in slot `sp` and whose low byte lies in the slot below it. -/
theorem State.topWord_of_slots {sp : Byte} {w : Word} (hsp : s.sp = sp - 1 - 1) (hhigh : s.byteAt (stackAddr sp) = high w)
    (hlow : s.byteAt (stackAddr (sp - 1)) = low w) : s.topWord = w := by
  rw [State.topWord_eq, State.touch_of_ram (State.owner_stackAddr h _) rfl, hsp, sub_add_cancel, sub_add_cancel, hhigh, hlow,
    word_high_low]

/-! ### What was pushed is pulled -/

theorem State.top_push (b : Byte) : (s.push b).top = b := by
  rw [State.top, State.push_byteAt_stackAddr h, State.push_sp, sub_add_cancel, if_pos rfl]

theorem State.pop_push (b : Byte) : (s.push b).pop = s.setRam (s.push b).ram := by
  rw [State.pop_of_onConsole (State.push_onConsole h b), State.push_sp, sub_add_cancel, State.push_of_onConsole h]
  rfl

theorem State.topWord_pushWord (w : Word) : (s.pushWord w).topWord = w :=
  State.topWord_of_slots (State.pushWord_onConsole h w) (State.pushWord_sp s w) (State.pushWord_slot_high h w)
    (State.pushWord_slot_low h w)

theorem State.popWord_pushWord (w : Word) : (s.pushWord w).popWord = s.setRam (s.pushWord w).ram := by
  rw [State.popWord_of_onConsole (State.pushWord_onConsole h w), State.pushWord_sp, sub_add_cancel, sub_add_cancel,
    State.pushWord_of_onConsole h]
  rfl

end

/-- Settles O21: what was pushed is on top, and popping it restores S. -/
theorem pullAfterPushReturnsTheByte : Obligations.PullAfterPushReturnsTheByte := by
  intro s h
  have hc := State.covered_of_onConsole h
  refine ⟨fun x => ⟨_, s.setRam (s.push x).ram, push8_of_covered hc x, ?_, rfl, fun h0 => ?_⟩,
    fun w => ⟨_, s.setRam (s.pushWord w).ram, push16_of_covered hc w, ?_, rfl⟩⟩
  · rw [pull8_of_covered (State.push_covered hc x), State.top_push h, State.pop_push h]
  · rw [State.push_sp, h0]
    rfl
  · rw [pull16_of_covered (State.covered_of_onConsole (State.pushWord_onConsole h w)), State.topWord_pushWord h,
      State.popWord_pushWord h]

/-! ## Returns undo calls and entries (R247, R248, R312) -/

section
variable {s : State} (h : s.onConsole)
include h

/-- RTS after JSR. -/
theorem rts_jsr (d16 : Word) : Instr.rts.result ((Instr.jsr d16).result s) = s.setRam (s.pushWord (s.pc - 1)).ram := by
  have hw := State.pushWord_onConsole h (s.pc - 1)
  have ht : ((s.pushWord (s.pc - 1)).setPc d16).onConsole := State.onConsole_congr hw (by simp)
  have htop : ((s.pushWord (s.pc - 1)).setPc d16).topWord = s.pc - 1 := by
    refine State.topWord_of_slots ht (sp := s.sp) (by simp) ?_ ?_ <;> rw [State.setPc_byteAt]
    · exact State.pushWord_slot_high h _
    · exact State.pushWord_slot_low h _
  have hpop : ((s.pushWord (s.pc - 1)).setPc d16).popWord = ((s.pushWord (s.pc - 1)).setPc d16).setSp s.sp := by
    rw [State.popWord_of_onConsole ht, State.setPc_sp, State.pushWord_sp, sub_add_cancel, sub_add_cancel]
  rw [Instr.result, Instr.result, htop, sub_add_cancel, hpop, State.pushWord_of_onConsole h]
  rfl

/-- An entry writes the status byte below the return address; the vector reads change no slot. -/
theorem State.entered_byteAt_stackAddr (status : Byte) (vector : Word) (k : Byte) :
    (s.entered status vector).byteAt (stackAddr k) =
      if k = s.sp - 1 - 1 then status else (s.pushWord s.pc).byteAt (stackAddr k) := by
  have hs : (s.saved status).onConsole := State.onConsole_congr h (by simp)
  rw [State.entered, State.setPc_byteAt, State.touchWord_byteAt_stackAddr hs, State.saved, State.setP_byteAt,
    State.push_byteAt_stackAddr (State.pushWord_onConsole h _), State.pushWord_sp]

theorem State.top_entered (status : Byte) (vector : Word) : (s.entered status vector).top = status := by
  rw [State.top, State.entered_sp, sub_add_cancel, State.entered_byteAt_stackAddr h, if_pos rfl]

/-- Once the status byte is pulled and assigned, the return address is on top. -/
theorem State.topWord_pop_entered (status : Byte) (vector : Word) (p : Flags) :
    ((s.entered status vector).pop.setP p).topWord = s.pc := by
  have ht : (s.entered status vector).onConsole := State.onConsole_congr h (by simp)
  have hpop : (s.entered status vector).pop = (s.entered status vector).setSp (s.sp - 1 - 1) := by
    rw [State.pop_of_onConsole ht, State.entered_sp, sub_add_cancel]
  have hlow : s.sp - 1 ≠ s.sp - 1 - 1 := by bv_omega
  have hhigh : s.sp ≠ s.sp - 1 - 1 := by bv_omega
  refine State.topWord_of_slots (State.onConsole_congr ht (by simp)) (sp := s.sp) (by simp) ?_ ?_ <;>
    rw [State.setP_byteAt, hpop, State.setSp_byteAt, State.entered_byteAt_stackAddr h]
  · rw [if_neg hhigh, State.pushWord_slot_high h]
  · rw [if_neg hlow, State.pushWord_slot_low h]

/-- RTI after an entry. -/
theorem returned_entered (status : Byte) (vector : Word) :
    (s.entered status vector).returned.pc = s.pc ∧ (s.entered status vector).returned.sp = s.sp ∧
      (s.entered status vector).returned.p = assign status := by
  refine ⟨State.topWord_pop_entered h status vector _, ?_, ?_⟩
  · simp [State.returned]
  · simp [State.returned, State.top_entered h]

end

/-- Settles O54: `rts_jsr` and `returned_entered`; the status byte pushed gives the flags back. -/
theorem returnsUndoCallsAndEntries : Obligations.ReturnsUndoCallsAndEntries := by
  intro s h
  have hc := State.covered_of_onConsole h
  refine ⟨fun d16 => ⟨_, _, exec_of_covered hc _, exec_of_covered (State.covered_congr ?_ hc) _, ?_⟩,
    fun vector => ⟨_, _, enter_of_covered hc _ vector, exec_of_covered (State.covered_congr ?_ hc) _, ?_⟩,
    _, _, exec_of_covered hc _, exec_of_covered (State.covered_congr ?_ hc) _, ?_⟩
  · simp [Instr.result]
  · rw [rts_jsr h]
    rfl
  · simp
  · obtain ⟨hpc, hsp, hp⟩ := returned_entered h (interruptValue s.p) vector
    exact ⟨hpc, hsp, hp.trans (assign_interruptValue s.p)⟩
  · simp [Instr.result]
  · obtain ⟨hpc, hsp, hp⟩ := returned_entered (s := s.setPc (s.pc + 1)) h (instructionValue s.p) irqVector
    exact ⟨hpc, hsp, hp.trans (assign_instructionValue s.p)⟩

end Sys2Proof.Machine
end

section
/-! The proofs for 20_memory.md: what the bus reads of a state and the accesses an instruction makes (R83, R151), the invariant of
every step (R68, R71, R73, R79), the first device that claims an address (R64, R65), RAM and the device windows (R66, R70, R71), the
effective addresses of the modes (R62, R80), and from them what an instruction changes and what the next fetch sees (R85, R349). -/

namespace Sys2Proof.Machine

/-! ## What the bus reads of a state -/

/-- What stands behind the bus: RAM, the windows, the cartridge, and the device list that says where each lies. -/
def State.bus (s : State) : Memory × Port × Port × Cartridge × List Slot := (s.ram, s.ppu, s.io, s.cart, s.devices)

theorem State.bus_eq_iff {s t : State} :
    t.bus = s.bus ↔ t.ram = s.ram ∧ t.ppu = s.ppu ∧ t.io = s.io ∧ t.cart = s.cart ∧ t.devices = s.devices := by
  simp only [State.bus, Prod.mk.injEq]

section
variable {s t : State} (h : t.bus = s.bus)
include h

theorem State.byteAt_of_bus (a : Word) : t.byteAt a = s.byteAt a := by
  obtain ⟨hram, hppu, hio, hcart, hdev⟩ := State.bus_eq_iff.mp h
  simp only [State.byteAt, State.owner, Slot.byteAt, hram, hppu, hio, hcart, hdev]

theorem State.touch_bus (a : Word) : (t.touch a).bus = (s.touch a).bus := by
  obtain ⟨hram, hppu, hio, hcart, hdev⟩ := State.bus_eq_iff.mp h
  simp only [State.touch, State.owner, Slot.afterRead, hppu, hio, hcart, hdev]
  split
  · split <;> (try split) <;> simp [State.bus, *]
  · exact h

theorem State.store_bus (a : Word) (v : Byte) : (t.store a v).bus = (s.store a v).bus := by
  obtain ⟨hram, hppu, hio, hcart, hdev⟩ := State.bus_eq_iff.mp h
  simp only [State.store, State.owner, Slot.afterWrite, hram, hppu, hio, hcart, hdev]
  split
  · split <;> (try split) <;> simp [State.bus, *]
  · exact h

/-- The invariant speaks of nothing else. -/
theorem State.wf_of_bus (hs : s.wf) : t.wf := by
  obtain ⟨hram, -, -, hcart, hdev⟩ := State.bus_eq_iff.mp h
  exact State.wf_congr hram hdev (congrArg Cartridge.image hcart) hs

end

theorem branchIf_bus (taken : Bool) (d8 : Byte) (s : State) : (branchIf taken d8 s).bus = s.bus := by
  rw [branchIf_eq_setPc]
  rfl

/-! ## The accesses an instruction makes (R83, R151) -/

theorem made_append (l l' : List Claims.Access) (s : State) : Claims.made (l ++ l') s = Claims.made l' (Claims.made l s) := by
  induction l generalizing s with
  | nil => rfl
  | cons x l ih => cases x <;> exact ih _

theorem made_bus {s t : State} (h : t.bus = s.bus) (l : List Claims.Access) : (Claims.made l t).bus = (Claims.made l s).bus := by
  induction l generalizing s t with
  | nil => exact h
  | cons x l ih =>
    cases x with
    | read a => exact ih (State.touch_bus h a)
    | write a v => exact ih (State.store_bus h a v)

/-- The pointer reads of a mode leave the state its addressing does. -/
theorem made_pointerReads {i : Instr} {f : MemForm} (hf : i.memForm = some f) (s : State) :
    Claims.made (Claims.pointerReads i s) s = s.afterMode f := by
  unfold Instr.memForm at hf
  unfold Claims.pointerReads
  cases hm : i.mode <;> simp only [hm] at hf
  case imp | acc | imm | ind | rel => cases hf
  case abs =>
    split at hf <;> cases hf
    rfl
  case zp | zpx | zpy | abx | aby | izx | izy =>
    cases hf
    rfl

/-- The byte a read-modify-write instruction writes is `w` of the byte read and the carry (R192, R193, R213 to R216). -/
theorem ModifyOp.written_eq {m : Mnemonic} {op : Ref → State → Except Fault State} {w : Byte → Bool → Byte}
    {k : Flags → Byte → Flags} (h : ModifyOp m op w k) {i : Instr} {f : MemForm} (hm : i.mnemonic = m)
    (hf : i.memForm = some f) (s : State) : Claims.written i s = w (s.operand f) s.p.c := by
  cases h with
  | inc | dec => simp only [Claims.written, hm, hf]
  | shift h => cases h <;> simp [Claims.written, hm, hf, shiftLeft_eq, shiftRight_eq, rotateLeft, rotateRight]

section
variable {i : Instr} {m : Mnemonic} {f : MemForm} {s : State} (hm : i.mnemonic = m) (hf : i.memForm = some f)
include hm hf

/-- Reading the operand is the access after the pointer's; the rest changes registers. -/
theorem ReadOp.result_bus {g : State → Byte → State} (h : ReadOp m g) (hr : i.result s = g (s.afterOperand f) (s.operand f)) :
    (i.result s).bus = (Claims.made (Claims.accesses i s) s).bus := by
  have ha : Claims.accesses i s = Claims.pointerReads i s ++ [.read (s.effective f)] := by
    cases h <;> simp only [Claims.accesses, Claims.atOperand, hm, hf]
  have hg (t : State) (b : Byte) : (g t b).bus = t.bus := by cases h <;> rfl
  rw [ha, made_append, made_pointerReads hf, hr, hg]
  rfl

theorem StoreOp.result_bus {reg : State → Byte} (h : StoreOp m reg)
    (hr : i.result s = (s.afterMode f).store (s.effective f) (reg s)) :
    (i.result s).bus = (Claims.made (Claims.accesses i s) s).bus := by
  have ha : Claims.accesses i s = Claims.pointerReads i s ++ [.write (s.effective f) (reg s)] := by
    cases h <;> simp only [Claims.accesses, Claims.atOperand, Claims.written, hm, hf]
  rw [ha, made_append, made_pointerReads hf, hr]
  rfl

theorem ModifyOp.result_bus {op : Ref → State → Except Fault State} {w : Byte → Bool → Byte} {k : Flags → Byte → Flags}
    (h : ModifyOp m op w k) (hr : i.result s = s.modified f (w · s.p.c) k) :
    (i.result s).bus = (Claims.made (Claims.accesses i s) s).bus := by
  have ha : Claims.accesses i s =
      Claims.pointerReads i s ++ [.read (s.effective f), .write (s.effective f) (Claims.written i s)] := by
    cases h with
    | inc | dec => simp only [Claims.accesses, Claims.atOperand, hm, hf]
    | shift h => cases h <;> simp only [Claims.accesses, Claims.atOperand, hm, hf]
  rw [ha, made_append, made_pointerReads hf, hr, h.written_eq hm hf]
  rfl

end

/-! ### The stack -/

theorem slot_zero (s : State) : Claims.slot s 0 = stackAddr s.sp := by
  rw [Claims.slot, show s.sp + 0 = s.sp from BitVec.add_zero _]
  rfl

theorem slot_255 (s : State) : Claims.slot s 255 = stackAddr (s.sp - 1) := by
  rw [show s.sp - 1 = s.sp + 255 by bv_omega]
  rfl

theorem slot_254 (s : State) : Claims.slot s 254 = stackAddr (s.sp - 1 - 1) := by
  rw [show s.sp - 1 - 1 = s.sp + 254 by bv_omega]
  rfl

theorem instructionValue_eq (p : Flags) : instructionValue p = Claims.statusByte p true := by
  obtain ⟨c, z, i, d, v, n⟩ := p
  revert c z i d v n
  decide

theorem State.pop_bus (s : State) : s.pop.bus = (s.touch (Claims.slot s 1)).bus := by
  rw [State.pop_eq]
  rfl

theorem State.popWord_bus (s : State) : s.popWord.bus = ((s.touch (Claims.slot s 1)).touch (Claims.slot s 2)).bus := by
  rw [State.popWord_eq, show s.sp + 1 + 1 = s.sp + 2 by bv_omega]
  rfl

theorem State.push_bus (s : State) (b : Byte) : (s.push b).bus = (s.store (Claims.slot s 0) b).bus := by
  rw [slot_zero]
  rfl

theorem State.pushWord_bus (s : State) (w : Word) :
    (s.pushWord w).bus = ((s.store (Claims.slot s 0) (high w)).store (Claims.slot s 255) (low w)).bus := by
  rw [State.pushWord_eq, slot_zero, slot_255]
  rfl

/-- The pull of a status byte, then of PC. -/
theorem State.returned_bus (s : State) :
    s.returned.bus = (((s.touch (Claims.slot s 1)).touch (Claims.slot s 2)).touch (Claims.slot s 3)).bus := by
  have h2 : Claims.slot (s.pop.setP (assign s.top)) 1 = Claims.slot s 2 := by
    rw [Claims.slot, State.setP_sp, State.pop_sp, BitVec.add_assoc]
    rfl
  have h3 : Claims.slot (s.pop.setP (assign s.top)) 2 = Claims.slot s 3 := by
    rw [Claims.slot, State.setP_sp, State.pop_sp, BitVec.add_assoc]
    rfl
  have hpop : (s.pop.setP (assign s.top)).bus = (s.touch (Claims.slot s 1)).bus := State.pop_bus s
  calc s.returned.bus = (s.pop.setP (assign s.top)).popWord.bus := rfl
    _ = _ := by rw [State.popWord_bus, h2, h3]; exact State.touch_bus (State.touch_bus hpop _) _

/-- Three writes, then the two reads of the vector. -/
theorem State.entered_bus (s : State) (status : Byte) (vector : Word) :
    (s.entered status vector).bus =
      (Claims.made [.write (Claims.slot s 0) (high s.pc), .write (Claims.slot s 255) (low s.pc), .write (Claims.slot s 254) status,
        .read vector, .read (vector + 1)] s).bus := by
  have hsaved : (s.saved status).bus =
      (((s.store (Claims.slot s 0) (high s.pc)).store (Claims.slot s 255) (low s.pc)).store (Claims.slot s 254) status).bus := by
    have hpush := State.push_bus (s.pushWord s.pc) status
    rw [slot_zero, State.pushWord_sp, ← slot_254] at hpush
    exact hpush.trans (State.store_bus (State.pushWord_bus s s.pc) _ _)
  exact State.touch_bus (State.touch_bus hsaved vector) (vector + 1)

/-! ### All instructions -/

/-- What stands behind the bus after an instruction is what its listed accesses leave, made one after another. -/
theorem result_bus (i : Instr) (s : State) : (i.result s).bus = (Claims.made (Claims.accesses i s) s).bus := by
  cases i with
  | ldaImm | ldxImm | ldyImm | adcImm | sbcImm | andImm | oraImm | eorImm | cmpImm | cpxImm | cpyImm
  | aslAcc | lsrAcc | rolAcc | rorAcc
  | tax | tay | txa | tya | txs | tsx | inx | iny | dex | dey | clc | sec | cld | sed | cli | sei | clv | nop | jmpAbs => rfl
  | bcc | bcs | beq | bne | bmi | bpl | bvc | bvs => exact branchIf_bus _ _ s
  | ldaZp | ldaZpx | ldaAbs | ldaAbx | ldaAby | ldaIzx | ldaIzy | ldxZp | ldxZpy | ldxAbs | ldxAby | ldyZp | ldyZpx | ldyAbs
  | ldyAbx | adcZp | adcZpx | adcAbs | adcAbx | adcAby | adcIzx | adcIzy | sbcZp | sbcZpx | sbcAbs | sbcAbx | sbcAby | sbcIzx
  | sbcIzy | andZp | andZpx | andAbs | andAbx | andAby | andIzx | andIzy | oraZp | oraZpx | oraAbs | oraAbx | oraAby | oraIzx
  | oraIzy | eorZp | eorZpx | eorAbs | eorAbx | eorAby | eorIzx | eorIzy | cmpZp | cmpZpx | cmpAbs | cmpAbx | cmpAby | cmpIzx
  | cmpIzy | cpxZp | cpxAbs | cpyZp | cpyAbs | bitZp | bitAbs =>
    exact ReadOp.result_bus rfl rfl (by constructor) (by rfl)
  | staZp | staZpx | staAbs | staAbx | staAby | staIzx | staIzy | stxZp | stxZpy | stxAbs | styZp | styZpx | styAbs =>
    exact StoreOp.result_bus rfl rfl (by constructor) (by rfl)
  | incZp | incZpx | incAbs | incAbx | decZp | decZpx | decAbs | decAbx =>
    exact ModifyOp.result_bus rfl rfl (by constructor) (by rfl)
  | aslZp | aslZpx | aslAbs | aslAbx | lsrZp | lsrZpx | lsrAbs | lsrAbx | rolZp | rolZpx | rolAbs | rolAbx | rorZp | rorZpx
  | rorAbs | rorAbx =>
    exact ModifyOp.result_bus rfl rfl (.shift (by constructor)) (by rfl)
  | jmpInd => rfl
  | jsr => exact State.pushWord_bus s (s.pc - 1)
  | rts => exact State.popWord_bus s
  | rti => exact State.returned_bus s
  | pha => exact State.push_bus s s.a
  | php =>
    have ha : Claims.accesses .php s = [.write (Claims.slot s 0) (instructionValue s.p)] := by
      rw [instructionValue_eq]
      rfl
    exact ha ▸ State.push_bus s (instructionValue s.p)
  | pla | plp => exact State.pop_bus s
  | brk =>
    have ha : Claims.accesses .brk s =
        [.write (Claims.slot s 0) (high (s.pc + 1)), .write (Claims.slot s 255) (low (s.pc + 1)),
          .write (Claims.slot s 254) (instructionValue s.p), .read irqVector, .read (irqVector + 1)] := by
      rw [instructionValue_eq]
      rfl
    exact ha ▸ (State.entered_bus (s.setPc (s.pc + 1)) (instructionValue s.p) irqVector).trans
      (made_bus (s := s) (t := s.setPc (s.pc + 1)) rfl _)

/-! ## The invariant of every step (R68, R71, R73, R79) -/

theorem made_wf (l : List Claims.Access) {s : State} (h : s.wf) : (Claims.made l s).wf := by
  induction l generalizing s with
  | nil => exact h
  | cons x l ih =>
    cases x with
    | read a => exact ih (State.touch_wf a h)
    | write a v => exact ih (State.store_wf a v h)

theorem result_wf (i : Instr) {s : State} (h : s.wf) : (i.result s).wf :=
  State.wf_of_bus (result_bus i s) (made_wf _ h)

/-- The reset step reads its vector and changes no memory. -/
theorem State.resetDone_wf {s : State} (h : s.wf) : s.resetDone.wf :=
  State.touch_wf (s := State.touch ((s.setSp 0xFF).setP { s.p with i := Config.resetI }) resetVector) _ (State.touch_wf _ h)

/-- Settles O49: the four kinds of step of `step_next` each keep the invariant; a move of the environment changes nothing it
speaks of. -/
theorem stepKeepsTheInvariant : Obligations.StepKeepsTheInvariant := by
  refine ⟨fun s t hs h => ?_, fun e s hs => ?_⟩
  · rcases step_next h with ⟨-, rfl⟩ | ⟨-, -, rfl⟩ | ⟨-, -, -, -, rfl⟩ | ⟨-, i, n, -, -, rfl⟩
    · exact State.resetDone_wf hs
    · exact State.entered_wf (s := s.setNmiPending false) _ nmiVector hs
    · exact State.entered_wf _ irqVector hs
    · exact result_wf i (State.afterFetches_wf n hs)
  · cases e <;> exact hs

/-- Settles O50: the invariant of the one reset state is evaluated; its map is the console's. -/
theorem resetStateMeetsTheInvariant : Obligations.ResetStateMeetsTheInvariant := ⟨by decide, State.reset_covered⟩

/-! ## The first device that claims an address (R64, R65) -/

theorem State.owner_of_first {s : State} {before after : List Slot} {d : Slot} {a : Word} (hdev : s.devices = before ++ d :: after)
    (hbefore : ∀ e ∈ before, e.contains a = false) (hd : d.contains a = true) : s.owner a = some d := by
  have hnone : before.find? (fun e => e.contains a) = none := List.find?_eq_none.mpr fun e he => by simp [hbefore e he]
  rw [State.owner, hdev, List.find?_append, hnone, Option.none_or]
  exact List.find?_cons_of_pos hd

theorem busRead_of_owner {s : State} {a : Word} {d : Slot} (h : s.owner a = some d) :
    busRead a s = .ok (d.byteAt s a, d.afterRead s a) := by
  simp [busRead, State.claimed, State.byteAt, State.touch, h]

theorem busWrite_of_owner {s : State} {a : Word} {d : Slot} (v : Byte) (h : s.owner a = some d) :
    busWrite a v s = .ok (d.afterWrite s a v) := by
  simp [busWrite, State.claimed, State.store, h]

/-- Settles O14: `State.owner_of_first`; the bus asks the owner. -/
theorem firstClaimingDeviceIsReached : Obligations.FirstClaimingDeviceIsReached := by
  intro s before after d a v hdev hbefore hd
  have ho := State.owner_of_first hdev hbefore hd
  exact ⟨ho, busRead_of_owner ho, busWrite_of_owner v ho⟩

theorem State.claimed_eq_false {s : State} {a : Word} (h : ∀ d ∈ s.devices, d.contains a = false) : s.claimed a = false := by
  have hnone : s.owner a = none := List.find?_eq_none.mpr fun d hd => by simp [h d hd]
  rw [State.claimed, hnone]
  rfl

/-- Settles O15: an access completes or faults by whether its address is claimed, and the console's map claims every address. -/
theorem unclaimedAccessIsFatal : Obligations.UnclaimedAccessIsFatal := by
  refine ⟨fun s a v h => ?_, fun s a v f h => ?_, fun s h => State.covered_of_onConsole h⟩
  · have hc := State.claimed_eq_false h
    simp [busRead, busWrite, hc]
  · rcases h with h | h
    · exact busRead_error h
    · exact busWrite_error h

/-! ## RAM (R70, R71) -/

/-- A write to RAM is read back at every address with the same index, and nowhere else. -/
theorem State.store_byteAt_of_ram {s : State} {a b : Word} {d : Slot} (v : Byte) (ha : s.owner a = some d)
    (hb : s.owner b = some d) (hk : d.kind = .ram) :
    (s.store a v).byteAt b = if d.index b = d.index a then v else s.byteAt b := by
  have hb' : (s.store a v).owner b = some d := (State.store_owner s a b v).trans hb
  rw [State.byteAt_of_ram hb' hk, State.byteAt_of_ram hb hk, State.store_of_ram v ha hk, State.setRam_ram, Memory.read_write]

/-- Settles O16: `State.store_byteAt_of_ram`, and a RAM write is a `setRam`. -/
theorem ramWriteChangesOneCell : Obligations.RamWriteChangesOneCell := by
  intro s a b v d ha hb hk
  refine ⟨State.touch_of_ram ha hk, State.byteAt_of_ram ha hk, rfl, State.store_byteAt_of_ram v ha hb hk, ?_⟩
  rw [State.store_of_ram v ha hk]
  rfl

/-! ## The console's map (R72 to R77) -/

/-- The other entries of the console's map (R72); `consoleRam` is the first. -/
def consolePpu : Slot := ⟨.ppu, 0x2000, 0x4000, 8⟩
def consoleIo : Slot := ⟨.io, 0x4000, 0x4020, 0x20⟩
def consoleCartridge : Slot := ⟨.cartridge, 0x4020, 0x10000, 0xBFE0⟩

theorem Slot.contains_iff (d : Slot) (a : Word) : d.contains a = true ↔ d.base ≤ a.toNat ∧ a.toNat < d.stop := by
  simp [Slot.contains]

theorem Slot.contains_eq_false_of_le {d : Slot} {a : Word} (h : d.stop ≤ a.toNat) : d.contains a = false := by
  rw [← Bool.not_eq_true, Slot.contains_iff]
  omega

section
variable {s : State} (h : s.onConsole) {a : Word}
include h

theorem State.owner_ram (hlt : a.toNat < 0x2000) : s.owner a = some consoleRam :=
  State.owner_of_first (before := []) h (by simp) ((Slot.contains_iff _ a).mpr ⟨Nat.zero_le _, hlt⟩)

theorem State.owner_ppu (hle : 0x2000 ≤ a.toNat) (hlt : a.toNat < 0x4000) : s.owner a = some consolePpu := by
  refine State.owner_of_first (before := [consoleRam]) h (fun e he => Slot.contains_eq_false_of_le ?_)
    ((Slot.contains_iff _ a).mpr ⟨hle, hlt⟩)
  rw [List.mem_singleton.mp he]
  exact hle

theorem State.owner_io (hle : 0x4000 ≤ a.toNat) (hlt : a.toNat < 0x4020) : s.owner a = some consoleIo := by
  refine State.owner_of_first (before := [consoleRam, consolePpu]) h (fun e he => Slot.contains_eq_false_of_le ?_)
    ((Slot.contains_iff _ a).mpr ⟨hle, hlt⟩)
  have hstop : e.stop ≤ 0x4000 := by revert e; decide
  exact hstop.trans hle

theorem State.owner_cartridge (hle : 0x4020 ≤ a.toNat) : s.owner a = some consoleCartridge := by
  refine State.owner_of_first (before := [consoleRam, consolePpu, consoleIo]) h (fun e he => Slot.contains_eq_false_of_le ?_)
    ((Slot.contains_iff _ a).mpr ⟨hle, a.isLt⟩)
  have hstop : e.stop ≤ 0x4020 := by revert e; decide
  exact hstop.trans hle

end

/-! ## The device windows (R66, R74, R75, R77) -/

theorem Port.value_of_free {p : Port} (hp : p.mode = .free) (id : PortId) (r : Nat) :
    p.value id r = Config.deviceRead id p.history p.outside r := by
  simp only [Port.value, hp]

theorem Port.after_of_free {p : Port} (hp : p.mode = .free) (e : PortEvent) : p.after e = { p with history := e :: p.history } := by
  simp only [Port.after, hp]

theorem Port.value_of_stub {p : Port} (hp : p.mode = .stub) (id : PortId) (r : Nat) : p.value id r = 0x00 := by
  simp only [Port.value, hp]

theorem Port.after_of_stub {p : Port} (hp : p.mode = .stub) (e : PortEvent) : p.after e = p := by simp only [Port.after, hp]

section
variable {s : State} {a : Word} (ho : s.owner a = some consolePpu)
include ho

theorem State.byteAt_of_ppu : s.byteAt a = s.ppu.value .ppu ((a.toNat - 0x2000) % 8) := by
  rw [State.byteAt, ho]
  rfl

theorem State.touch_of_ppu : s.touch a = s.setPpu (s.ppu.after (.read ((a.toNat - 0x2000) % 8))) := by
  rw [State.touch, ho]
  rfl

theorem State.store_of_ppu (v : Byte) : s.store a v = s.setPpu (s.ppu.after (.write ((a.toNat - 0x2000) % 8) v)) := by
  rw [State.store, ho]
  rfl

end

/-- The I/O block holds as many registers as addresses, so none is mirrored. -/
theorem index_consoleIo {a : Word} (hlt : a.toNat < 0x4020) : consoleIo.index a = a.toNat - 0x4000 :=
  Nat.mod_eq_of_lt (by simp only [consoleIo]; omega)

section
variable {s : State} {a : Word} (ho : s.owner a = some consoleIo) (hlt : a.toNat < 0x4020)
include ho hlt

theorem State.byteAt_of_io : s.byteAt a = s.io.value .io (a.toNat - 0x4000) := by
  rw [State.byteAt, ho, ← index_consoleIo hlt]
  rfl

theorem State.touch_of_io : s.touch a = s.setIo (s.io.after (.read (a.toNat - 0x4000))) := by
  rw [State.touch, ho, ← index_consoleIo hlt]
  rfl

theorem State.store_of_io (v : Byte) : s.store a v = s.setIo (s.io.after (.write (a.toNat - 0x4000) v)) := by
  rw [State.store, ho, ← index_consoleIo hlt]
  rfl

end

section
variable {s : State} {a : Word} (ho : s.owner a = some consoleCartridge) (hlt : a.toNat < 0x8000)
include ho hlt

theorem State.byteAt_of_cartLow : s.byteAt a = s.cart.low.value .cartLow a.toNat := by
  rw [State.byteAt, ho]
  exact if_pos hlt

theorem State.touch_of_cartLow : s.touch a = s.setCart { s.cart with low := s.cart.low.after (.read a.toNat) } := by
  rw [State.touch, ho]
  exact if_pos hlt

theorem State.store_of_cartLow (v : Byte) :
    s.store a v = s.setCart { s.cart with low := s.cart.low.after (.write a.toNat v) } := by
  rw [State.store, ho]
  exact if_pos hlt

end

/-- Settles O19: the owner of the address and its window; a stub ignores every access, a free window lists it. -/
theorem deviceWindowsSeeEveryAccess : Obligations.DeviceWindowsSeeEveryAccess := by
  refine ⟨fun s a v h hppu hio => ⟨fun hle hlt => ?ppu, fun hle hlt => ?io⟩,
    fun s a v h hle hlt => ⟨fun hm => ?stub, fun hm => ?free⟩⟩
  case ppu =>
    have ho := State.owner_ppu h hle hlt
    rw [State.byteAt_of_ppu ho, State.touch_of_ppu ho, State.store_of_ppu ho, Port.value_of_free hppu, Port.after_of_free hppu,
      Port.after_of_free hppu]
    exact ⟨rfl, rfl, rfl⟩
  case io =>
    have ho := State.owner_io h hle hlt
    rw [State.byteAt_of_io ho hlt, State.touch_of_io ho hlt, State.store_of_io ho hlt, Port.value_of_free hio,
      Port.after_of_free hio, Port.after_of_free hio]
    exact ⟨rfl, rfl, rfl⟩
  all_goals
    have ho := State.owner_cartridge h hle
    rw [State.byteAt_of_cartLow ho hlt, State.touch_of_cartLow ho hlt, State.store_of_cartLow ho hlt]
  case stub =>
    rw [Port.value_of_stub hm, Port.after_of_stub hm, Port.after_of_stub hm]
    exact ⟨rfl, rfl, rfl⟩
  case free =>
    rw [Port.value_of_free hm, Port.after_of_free hm, Port.after_of_free hm]
    exact ⟨rfl, rfl, rfl⟩

/-! ## The effective addresses of the modes (R62, R80) -/

theorem zext_toNat (b : Byte) : (zext b).toNat = b.toNat := by
  rw [zext]
  bv_omega

/-- Settles O29: the pointer forms are the model's own two reads; the sums are those of `BitVec`. -/
theorem effectiveAddressesOfTheModes : Obligations.EffectiveAddressesOfTheModes := by
  refine ⟨fun s d8 d16 => ⟨zext_toNat d8, ?zpx, ?zpy, rfl, ?abx, ?aby, rfl, ?izy, fun hff => ?izxAtFF, rfl, rfl,
    fun f hf => ?reads⟩,
    fun s a hc => readWord_of_covered hc a⟩
  case zpx => exact (zext_toNat _).trans (BitVec.toNat_add _ _)
  case zpy => exact (zext_toNat _).trans (BitVec.toNat_add _ _)
  case abx => exact (BitVec.toNat_add _ _).trans (by rw [zext_toNat])
  case aby => exact (BitVec.toNat_add _ _).trans (by rw [zext_toNat])
  case izy => exact (BitVec.toNat_add _ _).trans (by rw [zext_toNat]; rfl)
  case izxAtFF =>
    show s.wordAt (zext (d8 + s.x)) = _
    rw [hff]
    rfl
  case reads => fin_cases hf <;> rfl

/-! ## Memory changes only where it is stored (R71, R77, R83, R151) -/

theorem made_cart_image (l : List Claims.Access) (s : State) : (Claims.made l s).cart.image = s.cart.image := by
  induction l generalizing s with
  | nil => rfl
  | cons x l ih => cases x <;> exact (ih _).trans (by simp)

/-- A RAM cell that lies behind no address written keeps its byte. -/
theorem made_ram_read (l : List Claims.Access) {s : State} {k : Nat}
    (h : ∀ b v, Claims.Access.write b v ∈ l → s.cellOf b ≠ some k) : (Claims.made l s).ram.read k = s.ram.read k := by
  induction l generalizing s with
  | nil => rfl
  | cons x l ih =>
    cases x with
    | read a =>
      refine (ih fun b v hb => ?_).trans (by rw [State.touch_ram])
      rw [State.cellOf_congr (State.touch_devices s a)]
      exact h b v (List.mem_cons_of_mem _ hb)
    | write a v =>
      refine (ih fun b w hb => ?_).trans ?_
      · rw [State.cellOf_congr (State.store_devices s a v)]
        exact h b w (List.mem_cons_of_mem _ hb)
      · rw [State.store_ram_read, if_neg (h a v List.mem_cons_self)]

theorem write_not_mem_pointerReads (i : Instr) (s : State) (b : Word) (v : Byte) : .write b v ∉ Claims.pointerReads i s := by
  unfold Claims.pointerReads
  split <;> simp

/-- The mnemonics whose instructions push or pull. -/
def usesStack : Mnemonic → Bool
  | .jsr | .rts | .rti | .pha | .php | .pla | .plp | .brk => true
  | _ => false

/-- The mnemonics that write at the effective address of a memory form: the stores and the read-modify-write instructions. -/
def storesOperand : Mnemonic → Bool
  | .sta | .stx | .sty | .inc | .dec | .asl | .lsr | .rol | .ror => true
  | _ => false

theorem atOperand_cases (i : Instr) (s : State) (a : Word) :
    (storesOperand i.mnemonic = true ∧
      (Claims.atOperand i s a = [.write a (Claims.written i s)] ∨
        Claims.atOperand i s a = [.read a, .write a (Claims.written i s)])) ∨
      (storesOperand i.mnemonic = false ∧ Claims.atOperand i s a = [.read a]) := by
  unfold Claims.atOperand
  cases i.mnemonic <;> simp [storesOperand]

/-- The address of an access. -/
def accessAddr : Claims.Access → Word
  | .read a => a
  | .write a _ => a

theorem accessAddr_of_mem_atOperand {i : Instr} {s : State} {a : Word} :
    ∀ x ∈ Claims.atOperand i s a, accessAddr x = a := by
  rcases atOperand_cases i s a with ⟨-, ha | ha⟩ | ⟨-, ha⟩ <;> simp [ha, accessAddr]

section
variable {i : Instr} {f : MemForm} (hf : i.memForm = some f)
include hf

theorem usesStack_of_memForm : usesStack i.mnemonic = false := by
  cases i with
  | jsr | rts | rti | pha | php | pla | plp | brk => cases hf
  | _ => rfl

theorem writesPc_of_memForm : i.writesPc = false := by
  cases i with
  | bcc | bcs | beq | bne | bmi | bpl | bvc | bvs | jmpAbs | jmpInd | jsr | rts | rti | brk => cases hf
  | _ => rfl

theorem accesses_of_memForm (s : State) :
    Claims.accesses i s = Claims.pointerReads i s ++ Claims.atOperand i s (s.effective f) := by
  have hs := usesStack_of_memForm hf
  unfold Claims.accesses
  cases hm : i.mnemonic with
  | jsr | rts | rti | pha | php | pla | plp | brk =>
    rw [hm] at hs
    cases hs
  | _ => rw [hf]

theorem storedAt_of_memForm (s : State) :
    i.storedAt s = if storesOperand i.mnemonic = true then [s.effective f] else [] := by
  have hs := usesStack_of_memForm hf
  unfold Instr.storedAt
  cases hm : i.mnemonic with
  | pha | php | jsr | brk =>
    rw [hm] at hs
    cases hs
  | sta | stx | sty | inc | dec | asl | lsr | rol | ror =>
    rw [hf]
    rfl
  | _ => rfl

end

/-- The addresses of the listed writes are those the table of stores names. -/
theorem mem_storedAt_of_write {i : Instr} {s : State} {b : Word} {v : Byte} (h : .write b v ∈ Claims.accesses i s) :
    b ∈ i.storedAt s := by
  cases hf : i.memForm with
  | some f =>
    rw [accesses_of_memForm hf] at h
    have hat := (List.mem_append.mp h).resolve_left (write_not_mem_pointerReads i s b v)
    obtain rfl : b = s.effective f := accessAddr_of_mem_atOperand _ hat
    rcases atOperand_cases i s (s.effective f) with ⟨hst, -⟩ | ⟨-, hread⟩
    · rw [storedAt_of_memForm hf, if_pos hst]
      exact List.mem_singleton_self _
    · simp [hread] at hat
  | none =>
    have hat := (List.mem_append.mp h).resolve_left (write_not_mem_pointerReads i s b v)
    have h2 : s.sp - 1 - 1 = s.sp - 2 := by bv_omega
    unfold Instr.storedAt
    cases hm : i.mnemonic <;>
      simp only [hm, hf, slot_zero, slot_255, slot_254, h2, List.mem_cons, Claims.Access.write.injEq, reduceCtorEq,
        List.not_mem_nil, or_false, or_self] at hat ⊢
    case jsr | pha | php | brk => tauto

theorem State.stored_congr {s t : State} {a : Word} (hd : t.devices = s.devices) (hi : t.cart.image = s.cart.image)
    (hr : ∀ k, s.cellOf a = some k → t.ram.read k = s.ram.read k) : t.stored a = s.stored a := by
  unfold State.cellOf at hr
  unfold State.stored
  rw [State.owner_congr hd, hi]
  cases ho : s.owner a with
  | none => rfl
  | some d =>
    obtain ⟨kind, base, stop, capacity⟩ := d
    cases kind with
    | ram => exact congrArg some (hr _ (by rw [ho]; rfl))
    | ppu | io | cartridge => rfl

/-- Settles O46: storage is RAM and ROM; the listed accesses change neither the image nor a cell behind no address stored. -/
theorem memoryChangesOnlyWhereStored : Obligations.MemoryChangesOnlyWhereStored := by
  intro i s t h
  obtain ⟨hram, -, -, hcart, -⟩ := State.bus_eq_iff.mp (exec_next h ▸ result_bus i s)
  have hdev : t.devices = s.devices := (instructionsLeaveTheInputsAlone i s t h).2.2.2.1
  have himage : t.cart.image = s.cart.image := by rw [hcart, made_cart_image]
  have hcell (k : Nat) (hk : ∀ b ∈ i.storedAt s, s.cellOf b ≠ some k) : t.ram.read k = s.ram.read k := by
    rw [hram]
    exact made_ram_read _ fun b v hb => hk b (mem_storedAt_of_write hb)
  refine ⟨fun a ha => State.stored_congr hdev himage fun k hk => hcell k fun b hb => ?_, hcell, himage⟩
  rcases ha b hb with hne | hnone
  · exact hk ▸ hne
  · rw [hk] at hnone
    cases hnone

/-! ## The listed accesses at a device window (R66, R83, R151) -/

section
variable {s : State} (h : s.onConsole)
include h

/-- The pointers of the modes lie in RAM, so reading them leaves the state as it was. -/
theorem State.touchWord_zext (b : Byte) : s.touchWord (zext b) = s := by
  have hb : (zext b).toNat < 0x2000 := by
    rw [zext_toNat]
    omega
  have hb' : (zext b + 1).toNat < 0x2000 := by
    have hle := zext_toNat b
    bv_omega
  rw [State.touchWord, secondAddr_eq, State.touch_of_ram (State.owner_ram h hb) rfl,
    State.touch_of_ram (State.owner_ram h hb') rfl]

theorem State.afterMode_of_onConsole (f : MemForm) : s.afterMode f = s := by
  cases f with
  | izx d8 => exact State.touchWord_zext h (d8 + s.x)
  | izy d8 => exact State.touchWord_zext h d8
  | zp | zpx | zpy | abs | abx | aby => rfl

/-- On the console an instruction in a memory mode leaves behind the bus what its accesses at the effective address do. -/
theorem result_bus_of_onConsole {i : Instr} {f : MemForm} (hf : i.memForm = some f) :
    (i.result s).bus = (Claims.made (Claims.atOperand i s (s.effective f)) s).bus := by
  rw [result_bus, accesses_of_memForm hf, made_append, made_pointerReads hf, State.afterMode_of_onConsole h]

end

/-- How a device window sees an access to its register `r`. -/
def accessEvent (r : Nat) : Claims.Access → PortEvent
  | .read _ => .read r
  | .write _ v => .write r v

/-- What a window has seen is the list of the accesses made to it, newest first. -/
theorem seen_eq (i : Instr) (s : State) (a : Word) (r : Nat) :
    Claims.seen i s r = ((Claims.atOperand i s a).map (accessEvent r)).reverse := by
  unfold Claims.seen Claims.atOperand
  cases i.mnemonic <;> rfl

theorem Port.foldl_after_of_free {p : Port} (hp : p.mode = .free) (l : List PortEvent) :
    l.foldl Port.after p = { p with history := l.reverse ++ p.history } := by
  induction l generalizing p with
  | nil => rfl
  | cons e l ih => rw [List.foldl_cons, Port.after_of_free hp, ih (p := { p with history := e :: p.history }) hp,
      List.reverse_cons, List.append_assoc, List.singleton_append]

/-- Accesses made to one register of a window: `put p` is the state with the window in the state `p`. -/
theorem made_of_window {a : Word} {r : Nat} {put : Port → State} (hread : ∀ p, (put p).touch a = put (p.after (.read r)))
    (hwrite : ∀ p v, (put p).store a v = put (p.after (.write r v))) (l : List Claims.Access) (hl : ∀ x ∈ l, accessAddr x = a)
    (p : Port) : Claims.made l (put p) = put ((l.map (accessEvent r)).foldl Port.after p) := by
  induction l generalizing p with
  | nil => rfl
  | cons x l ih =>
    obtain ⟨hx, hl⟩ := List.forall_mem_cons.mp hl
    subst hx
    cases x with
    | read b => exact (congrArg (Claims.made l) (hread p)).trans (ih hl _)
    | write b v => exact (congrArg (Claims.made l) (hwrite p v)).trans (ih hl _)

/-- At a register of the free PPU block the accesses of an instruction are seen, newest first, and nothing else changes. -/
theorem made_atOperand_of_ppu {s : State} {a : Word} (ho : s.owner a = some consolePpu) (hm : s.ppu.mode = .free) (i : Instr) :
    Claims.made (Claims.atOperand i s a) s =
      s.setPpu { s.ppu with history := Claims.seen i s ((a.toNat - 0x2000) % 8) ++ s.ppu.history } := by
  rw [seen_eq i s a, ← Port.foldl_after_of_free hm]
  exact made_of_window (put := s.setPpu) (fun p => State.touch_of_ppu (s := s.setPpu p) ho)
    (fun p => State.store_of_ppu (s := s.setPpu p) ho) _ accessAddr_of_mem_atOperand s.ppu

/-- So at a register of the free I/O block. -/
theorem made_atOperand_of_io {s : State} {a : Word} (ho : s.owner a = some consoleIo) (hlt : a.toNat < 0x4020)
    (hm : s.io.mode = .free) (i : Instr) :
    Claims.made (Claims.atOperand i s a) s =
      s.setIo { s.io with history := Claims.seen i s (a.toNat - 0x4000) ++ s.io.history } := by
  rw [seen_eq i s a, ← Port.foldl_after_of_free hm]
  exact made_of_window (put := s.setIo) (fun p => State.touch_of_io (s := s.setIo p) ho hlt)
    (fun p => State.store_of_io (s := s.setIo p) ho hlt) _ accessAddr_of_mem_atOperand s.io

/-- Settles O55: `result_bus`; at a register of a window, all the accesses after the pointer's are events of that window. -/
theorem deviceAccessesAreExactlyTheListed : Obligations.DeviceAccessesAreExactlyTheListed := by
  refine ⟨fun i s hc => ?_, fun i f s h hppu hio hf => ?_⟩
  · obtain ⟨hram, hppu, hio, hcart, -⟩ := State.bus_eq_iff.mp (result_bus i s)
    exact ⟨_, exec_of_covered hc i, hppu, hio, hcart, hram⟩
  · have hexec := exec_of_covered (State.covered_of_onConsole h) i
    have hbus := result_bus_of_onConsole h hf
    refine ⟨fun hle hlt => ⟨_, hexec, ?_⟩, fun hle hlt => ⟨_, hexec, ?_⟩⟩
    · rw [made_atOperand_of_ppu (State.owner_ppu h hle hlt) hppu] at hbus
      obtain ⟨hr, hp, hi, hc, -⟩ := State.bus_eq_iff.mp hbus
      exact ⟨congrArg Port.history hp, hi, hc, hr⟩
    · rw [made_atOperand_of_io (State.owner_io h hle hlt) hlt hio] at hbus
      obtain ⟨hr, hp, hi, hc, -⟩ := State.bus_eq_iff.mp hbus
      exact ⟨congrArg Port.history hi, hp, hc, hr⟩

/-! ## Stores are seen by the next fetch (R85, R349) -/

/-- A fetch after a store to the RAM cell behind PC answers the byte stored, whatever registers changed in between. -/
theorem fetch8_of_stored {s t : State} {a : Word} {v : Byte} (h : s.onConsole) (hbus : t.bus = (s.store a v).bus)
    (ht : t.pc = s.pc) (ha : a.toNat < 0x2000) (hpc : s.pc.toNat < 0x2000) (hcell : a.toNat % 0x800 = s.pc.toNat % 0x800) :
    fetch8 t = .ok (v, t.afterFetch) := by
  have hc : t.covered := by
    obtain ⟨-, -, -, -, hdev⟩ := State.bus_eq_iff.mp hbus
    exact State.covered_of_onConsole (hdev.trans ((State.store_devices s a v).trans h))
  have hindex : consoleRam.index s.pc = consoleRam.index a := hcell.symm
  rw [fetch8_of_covered hc, State.byteAt_of_bus hbus, ht,
    State.store_byteAt_of_ram v (State.owner_ram h ha) (State.owner_ram h hpc) rfl, if_pos hindex]

/-- An instruction that stores at its effective address in RAM leaves behind the bus what that one store does. -/
theorem result_bus_of_storedAt {s : State} {i : Instr} {f : MemForm} (h : s.onConsole) (hf : i.memForm = some f)
    (hst : i.storedAt s = [s.effective f]) (ha : (s.effective f).toNat < 0x2000) :
    (i.result s).bus = (s.store (s.effective f) (Claims.written i s)).bus := by
  rw [result_bus_of_onConsole h hf]
  rw [storedAt_of_memForm hf] at hst
  rcases atOperand_cases i s (s.effective f) with ⟨-, hat | hat⟩ | ⟨hno, -⟩
  · rw [hat]
    rfl
  · rw [hat, Claims.made, State.touch_of_ram (State.owner_ram h ha) rfl]
    rfl
  · simp [hno] at hst

/-- Settles O57: `fetch8_of_stored`, after a bus write and after a storing instruction. -/
theorem storesAreSeenByTheNextFetch : Obligations.StoresAreSeenByTheNextFetch := by
  refine ⟨fun s a v h ha hpc hcell => ?_, fun s i f h hf hst ha hpc hcell => ?_⟩
  · exact ⟨_, _, busWrite_of_claimed v (State.covered_of_onConsole h a),
      fetch8_of_stored h rfl (State.store_pc s a v) ha hpc hcell⟩
  · obtain ⟨-, hkeep, -⟩ := result_changesOnlyListed i s
    exact ⟨_, _, exec_of_covered (State.covered_of_onConsole h) i,
      fetch8_of_stored h (result_bus_of_storedAt h hf hst ha) (hkeep (writesPc_of_memForm hf)) ha hpc hcell⟩

end Sys2Proof.Machine
end

section
/-! The proofs for 30_encoding.md: the two round trips of `encode` and `decode` (R100, R102). The model writes the opcodes down
twice, in byte order for the decoder (R106) and by mnemonic for the encoder (R107): `announces_of_mem_opcodeMap` and
`decodeOpcode_opcode` compare the two, one in each direction, and `decode_eq_ok_iff` says what `decode` makes of the bytes. -/

namespace Sys2Proof

/-! ## What decode does -/

/-- The instruction a shape makes; it reads the byte or the word only where its format takes one. -/
def Shape.instr : Shape → Byte → Word → Instr
  | .f1 i, _, _ => i
  | .f2 make, b, _ => make b
  | .f3 make, _, w => make w

/-- The operand bytes of the instruction a shape makes (R101, R102). -/
def Shape.operandBytes : Shape → Byte → Word → List Byte
  | .f1 _, _, _ => []
  | .f2 _, b, _ => [b]
  | .f3 _, _, w => [Machine.low w, Machine.high w]

/-- `decode` answers exactly on an opcode byte of the map with the operand bytes of its shape behind it (R100 to R102). -/
theorem decode_eq_ok_iff {bytes rest : List Byte} {i : Instr} :
    decode bytes = .ok (i, rest) ↔
      ∃ op shape b w, decodeOpcode op = some shape ∧ bytes = op :: (shape.operandBytes b w ++ rest) ∧ i = shape.instr b w := by
  constructor
  · intro h
    cases bytes with
    | nil => cases h
    | cons op tail =>
      simp only [decode] at h
      split at h <;> cases h
      · next hop => exact ⟨op, _, 0, 0, hop, rfl, rfl⟩
      · next b hop => exact ⟨op, _, b, 0, hop, rfl, rfl⟩
      · next l u hop => exact ⟨op, _, 0, Machine.word u l, hop, by simp [Shape.operandBytes], rfl⟩
  · rintro ⟨op, shape, b, w, hop, rfl, rfl⟩
    cases shape <;> simp [decode, hop, Shape.operandBytes, Shape.instr]

/-! ## Looking an opcode up -/

/-- What is found in a part of the map stands there under the byte looked up. -/
theorem mem_of_findOpcode {rows : List (Byte × Shape)} {op : Byte} {shape : Shape} (h : findOpcode rows op = some shape) :
    (op, shape) ∈ rows := by
  induction rows with
  | nil => cases h
  | cons row rows ih =>
    rw [findOpcode] at h
    split at h
    · next heq =>
      cases h
      exact heq ▸ List.mem_cons_self
    · exact List.mem_cons_of_mem _ (ih h)

/-- In a part of the map with ascending bytes, a row that stands there is found. -/
theorem findOpcode_of_mem {rows : List (Byte × Shape)} {op : Byte} {shape : Shape}
    (hasc : (rows.map Prod.fst).Pairwise (· < ·)) (h : (op, shape) ∈ rows) : findOpcode rows op = some shape := by
  induction rows with
  | nil => cases h
  | cons row rows ih =>
    obtain ⟨hlt, hasc⟩ := List.pairwise_cons.mp hasc
    rw [findOpcode]
    cases h with
    | head => exact if_pos rfl
    | tail _ h =>
      rw [if_neg (BitVec.ne_of_lt (hlt op (List.mem_map_of_mem h)))]
      exact ih hasc h

/-- The map is in byte order (R106): `<` is transitive, so it is enough to compare neighbours. -/
theorem opcodeMap_ascending : (opcodeMap.map Prod.fst).Pairwise (· < ·) := by
  rw [← List.isChain_iff_pairwise]
  simp [opcodeMap, opcodeRow0, opcodeRow1, opcodeRow2, opcodeRow3, opcodeRow4, opcodeRow5, opcodeRow6, opcodeRow7,
    opcodeRow8, opcodeRow9, opcodeRowA, opcodeRowB, opcodeRowC, opcodeRowD, opcodeRowE, opcodeRowF]

theorem decodeOpcode_eq_some_iff {op : Byte} {shape : Shape} : decodeOpcode op = some shape ↔ (op, shape) ∈ opcodeMap :=
  ⟨mem_of_findOpcode, findOpcode_of_mem opcodeMap_ascending⟩

/-- The sixteen rows of the map, by the high digit of the byte (R106). -/
def opcodeRows : List (List (Byte × Shape)) :=
  [opcodeRow0, opcodeRow1, opcodeRow2, opcodeRow3, opcodeRow4, opcodeRow5, opcodeRow6, opcodeRow7,
   opcodeRow8, opcodeRow9, opcodeRowA, opcodeRowB, opcodeRowC, opcodeRowD, opcodeRowE, opcodeRowF]

theorem opcodeRows_flatten : opcodeRows.flatten = opcodeMap := by
  simp only [opcodeRows, opcodeMap, List.flatten_cons, List.flatten_nil, List.append_nil, List.append_assoc]

/-- A byte may be looked up in its own row of the map, which takes fewer comparisons. -/
theorem decodeOpcode_of_row {op : Byte} {shape : Shape} (h : findOpcode (opcodeRows.getD (op.toNat / 16) []) op = some shape) :
    decodeOpcode op = some shape := by
  have hlt : op.toNat / 16 < opcodeRows.length := by
    have hop := op.isLt
    simp only [opcodeRows, List.length_cons, List.length_nil]
    omega
  rw [List.getD_eq_getElem _ _ hlt] at h
  rw [decodeOpcode_eq_some_iff, ← opcodeRows_flatten]
  exact List.mem_flatten_of_mem (List.getElem_mem hlt) (mem_of_findOpcode h)

/-! ## The map of the decoder against the table of the encoder (R106, R107) -/

/-- `shape.Announces op`: every instruction the shape makes is encoded as `op` and the operand bytes, and is well formed. -/
def Shape.Announces (shape : Shape) (op : Byte) : Prop :=
  ∀ b w, encode (shape.instr b w) = op :: shape.operandBytes b w ∧ (shape.instr b w).wellFormed = true

theorem announces_of_mem_opcodeMap : ∀ row ∈ opcodeMap, row.2.Announces row.1 := by
  rw [← List.forall_iff_forall_mem]
  simp only [opcodeMap, opcodeRow0, opcodeRow1, opcodeRow2, opcodeRow3, opcodeRow4, opcodeRow5, opcodeRow6, opcodeRow7,
    opcodeRow8, opcodeRow9, opcodeRowA, opcodeRowB, opcodeRowC, opcodeRowD, opcodeRowE, opcodeRowF, List.forall_append,
    List.Forall]
  and_intros <;> exact fun _ _ => ⟨rfl, rfl⟩

theorem announces_of_decodeOpcode {op : Byte} {shape : Shape} (h : decodeOpcode op = some shape) : shape.Announces op :=
  announces_of_mem_opcodeMap _ (decodeOpcode_eq_some_iff.mp h)

/-- The map has the opcode of every instruction, under a shape that makes the instruction from its operand. -/
theorem decodeOpcode_opcode (i : Instr) :
    ∃ shape, decodeOpcode i.opcode = some shape ∧ i = shape.instr (i.operand8.getD 0) (i.operand16.getD 0) := by
  suffices h : ∃ shape, findOpcode (opcodeRows.getD (i.opcode.toNat / 16) []) i.opcode = some shape ∧
      i = shape.instr (i.operand8.getD 0) (i.operand16.getD 0) by
    obtain ⟨shape, hrow, hi⟩ := h
    exact ⟨shape, decodeOpcode_of_row hrow, hi⟩
  cases i <;> simp only [Instr.opcode] <;> exact ⟨_, by rfl, by rfl⟩

/-! ## The round trips -/

/-- Settles O1: the opcode of `i` is in the map, under a shape that announces the encoding of `i`. -/
theorem decodeOfEncodeIsTheInstruction : Obligations.DecodeOfEncodeIsTheInstruction := by
  intro i rest
  obtain ⟨shape, hop, hi⟩ := decodeOpcode_opcode i
  obtain ⟨hbytes, -⟩ := announces_of_decodeOpcode hop (i.operand8.getD 0) (i.operand16.getD 0)
  rw [← hi] at hbytes
  exact decode_eq_ok_iff.mpr ⟨_, shape, _, _, hop, by rw [hbytes, List.cons_append], hi⟩

/-- Settles O2: the shape found for the first byte announces the encoding of what it makes. -/
theorem decodedBytesAreTheEncoding : Obligations.DecodedBytesAreTheEncoding := by
  intro bytes i rest h
  obtain ⟨op, shape, b, w, hop, rfl, rfl⟩ := decode_eq_ok_iff.mp h
  obtain ⟨hbytes, hwf⟩ := announces_of_decodeOpcode hop b w
  exact ⟨by rw [hbytes, List.cons_append], hwf⟩

end Sys2Proof
end

section
/-! The proofs for 40_addressing_and_step.md section 1: a fetch as one bus read at PC (R131), and a step as the execution of the
instruction the bytes at PC decode to (R130). -/

namespace Sys2Proof.Machine

/-! ## One fetch (R131) -/

theorem fetch8_of_claimed {s : State} (h : s.claimed s.pc = true) : fetch8 s = .ok (s.byteAt s.pc, s.afterFetch) := by
  rw [fetch8, busRead_of_claimed h]
  rfl

theorem fetch8_of_not_claimed {s : State} (h : s.claimed s.pc = false) : fetch8 s = .error (.unmappedAccess s.pc) := by
  have hread : busRead s.pc s = .error (.unmappedAccess s.pc) := by simp [busRead, h]
  rw [fetch8, hread]
  rfl

/-- Settles O7: `fetch8` where the bus read at PC completes and where it faults. -/
theorem fetchReadsAtPcAndAdvances : Obligations.FetchReadsAtPcAndAdvances :=
  fun _ => ⟨fetch8_of_claimed, fetch8_of_not_claimed⟩

/-! ## Fetching an instruction (R130, R132) -/

/-- PC advances with every byte fetched (R24). -/
theorem State.afterFetches_pc (n : Nat) (s : State) : (s.afterFetches n).pc = s.pc + BitVec.ofNat 16 n := by
  induction n generalizing s with
  | zero => exact (BitVec.add_zero s.pc).symm
  | succ n ih =>
    rw [State.afterFetches, ih, State.afterFetch_pc, BitVec.add_assoc, Nat.add_comm n 1, BitVec.ofNat_add]
    rfl

/-- The fetch makes what the shape of the opcode byte makes of the operand bytes behind it, and takes those bytes only. -/
theorem fetchInstr_of_shape {s : State} {op b : Byte} {w : Word} {shape : Sys2Proof.Shape} {rest : List Byte} (hc : s.covered)
    (hop : decodeOpcode op = some shape) (hbytes : s.fetchedBytes 3 = op :: (shape.operandBytes b w ++ rest)) :
    fetchInstr s = .ok (shape.instr b w, s.afterFetches ((shape.operandBytes b w).length + 1)) := by
  obtain ⟨rfl, htail⟩ := List.cons.inj hbytes
  rw [fetchInstr, fetch8_of_covered hc]
  simp only [bind, Except.bind, hop]
  have hc1 := State.afterFetch_covered hc
  cases shape with
  | f1 i => rfl
  | f2 make =>
    obtain ⟨hb, -⟩ := List.cons.inj htail
    rw [fetch8_of_covered hc1, hb]
    rfl
  | f3 make =>
    obtain ⟨hl, htail⟩ := List.cons.inj htail
    obtain ⟨hh, -⟩ := List.cons.inj htail
    rw [fetch16_of_covered hc1, hl, ← State.afterFetch_pc, hh, word_high_low]
    rfl

/-- The fetch over the bus and `decode` on the bytes it reads agree. -/
theorem fetchInstr_of_decode {s : State} {i : Instr} {rest : List Byte} (hc : s.covered)
    (h : decode (s.fetchedBytes 3) = .ok (i, rest)) : fetchInstr s = .ok (i, s.afterFetches (encode i).length) := by
  obtain ⟨op, shape, b, w, hop, hbytes, rfl⟩ := decode_eq_ok_iff.mp h
  obtain ⟨hencode, -⟩ := announces_of_decodeOpcode hop b w
  rw [hencode, fetchInstr_of_shape hc hop hbytes, List.length_cons]

/-- Settles O6: with no event pending the step fetches, and the fetch answers what the bytes decode to. -/
theorem stepExecutesTheDecodedInstruction : Obligations.StepExecutesTheDecodedInstruction := by
  intro s i rest hc hq hdecode
  refine ⟨?_, State.afterFetches_pc _ s⟩
  rw [step, serveEvent_of_quiet hq, fetchInstr_of_decode hc hdecode]

end Sys2Proof.Machine
end

section
/-! The proofs for 41_load_store_transfer.md: the loads into A, X and Y (R170 to R172) and the stores of them (R173 to R175). -/

namespace Sys2Proof.Machine

theorem exec_of_result {s t : State} (hc : s.covered) {i : Instr} (hi : i.result s = t) : exec i s = .next t := by
  rw [exec_of_covered hc, hi]

/-! ## Loads (R170 to R172) -/

/-- An instruction in a memory mode that puts its operand into a register by `set` and has Z and N follow it. No read changes P, so
these are the flags before the instruction with only Z and N replaced. -/
theorem exec_load_at {s : State} (hc : s.covered) {i : Instr} {f : MemForm} (set : State → Byte → State)
    (hi : i.result s = (set (s.afterOperand f) (s.operand f)).setP (logical (s.afterOperand f).p (s.operand f))) :
    exec i s = .next ((set (s.afterOperand f) (s.operand f)).setP (logical s.p (s.operand f))) := by
  rw [State.afterOperand_p] at hi
  exact exec_of_result hc hi

/-- Settles O28: in the memory modes LDA is `exec_load_at` of A; the immediate form touches no bus. -/
theorem ldaCopiesTheOperandIntoA : Obligations.LdaCopiesTheOperandIntoA :=
  fun _ _ _ hc => ⟨rfl, fun _ hq => exec_load_at hc State.setA (by fin_cases hq <;> rfl)⟩

/-- Settles O30: in the memory modes LDX and LDY are `exec_load_at` of X and Y; the immediate forms touch no bus. -/
theorem ldxAndLdyCopyTheOperand : Obligations.LdxAndLdyCopyTheOperand := by
  refine ⟨fun s d8 d16 hc => ⟨rfl, fun q hq => ?ldx⟩, fun s d8 d16 hc => ⟨rfl, fun q hq => ?ldy⟩⟩
  case ldx => exact exec_load_at hc State.setX (by fin_cases hq <;> rfl)
  case ldy => exact exec_load_at hc State.setY (by fin_cases hq <;> rfl)

/-! ## Stores (R173 to R175) -/

/-- Settles O31: each form leaves the one store `Instr.result` names for it. -/
theorem storesWriteTheRegister : Obligations.StoresWriteTheRegister := by
  refine fun s d8 d16 hc => ⟨fun q hq => ?sta, fun q hq => ?stx, fun q hq => ?sty⟩
  case sta => exact exec_of_result hc (by fin_cases hq <;> rfl)
  case stx => exact exec_of_result hc (by fin_cases hq <;> rfl)
  case sty => exact exec_of_result hc (by fin_cases hq <;> rfl)

end Sys2Proof.Machine
end

section
/-! The proofs for 42_arithmetic.md: ADC and SBC as the exact sum and difference (R190, R191, R198), and INC and DEC of a byte in
memory (R192, R193). -/

namespace Sys2Proof.Machine

/-! ## ADC (R190) -/

/-- Adding to A leaves the exact sum: the low byte and Z, N, C of it by `arithmetic_eq`, V by `overflows3_eq_leavesSignedRange`. -/
theorem State.addToA_eq_sumInA (s : State) (m : Byte) : s.addToA m = Claims.sumInA s m := by
  simp only [State.addToA, State.setA, State.setP, addResult, addFlags, addExact, arithmetic_eq,
    overflows3_eq_leavesSignedRange, Claims.sumInA]

/-- Settles O33: each form adds its operand to A, and `State.addToA_eq_sumInA` says what that leaves. -/
theorem adcAddsWithCarry : Obligations.AdcAddsWithCarry := by
  refine fun s d8 d16 hc => ⟨exec_of_result hc (s.addToA_eq_sumInA d8), fun q hq => exec_of_result hc ?_⟩
  rw [← State.addToA_eq_sumInA]
  fin_cases hq <;> rfl

/-! ## SBC (R191) -/

/-- SBC is ADC of the complemented operand (C2). -/
theorem State.subFromA_eq_addToA_not (s : State) (m : Byte) : s.subFromA m = s.addToA (~~~m) :=
  congrArg s.addToA BitVec.xor_allOnes

/-- As a signed byte the complement is `-m - 1`, which is where the borrow of a clear carry comes from. -/
theorem not_toInt (m : Byte) : (~~~m).toInt = -m.toInt - 1 := by
  have hm := m.isLt
  rw [signed8_eq, signed8_eq, BitVec.toNat_not]
  split <;> split <;> omega

/-- The sum with the complement and the difference with the borrow leave one byte: they are 256 apart. -/
theorem ofNat_sum_not (a m : Byte) (c : Bool) :
    BitVec.ofNat 8 (a.toNat + (~~~m).toNat + c.toNat) = BitVec.ofInt 8 (a.toNat - m.toNat - (1 - c.toNat)) := by
  have hm := m.isLt
  apply BitVec.eq_of_toNat_eq
  rw [BitVec.toNat_ofNat, BitVec.toNat_ofInt, BitVec.toNat_not]
  omega

/-- The sum with the complement carries exactly where the difference with the borrow does not go below 0. -/
theorem carry_sum_not (a m : Byte) (c : Bool) :
    255 < a.toNat + (~~~m).toNat + c.toNat ↔ (m.toNat : Int) + (1 - c.toNat) ≤ a.toNat := by
  have hm := m.isLt
  rw [BitVec.toNat_not]
  omega

/-- The exact sum with the complement, as `Claims.sumInA` speaks of it, is the exact difference of `Claims.differenceInA`. -/
theorem sumInA_not_eq_differenceInA (s : State) (m : Byte) : Claims.sumInA s (~~~m) = Claims.differenceInA s m := by
  have hv : s.a.toInt + (~~~m).toInt + s.p.c.toNat = s.a.toInt - m.toInt - (1 - s.p.c.toNat) := by
    rw [not_toInt]
    omega
  simp only [Claims.sumInA, Claims.differenceInA, hv, carry_sum_not, ← ofNat_eq_zero_iff, ← sign_ofNat, ofNat_sum_not]
  rfl

theorem State.subFromA_eq_differenceInA (s : State) (m : Byte) : s.subFromA m = Claims.differenceInA s m := by
  rw [State.subFromA_eq_addToA_not, State.addToA_eq_sumInA, sumInA_not_eq_differenceInA]

/-- Settles O34: each form subtracts its operand from A, and `State.subFromA_eq_differenceInA` says what that leaves. -/
theorem sbcSubtractsWithBorrow : Obligations.SbcSubtractsWithBorrow := by
  refine fun s d8 d16 hc => ⟨exec_of_result hc (s.subFromA_eq_differenceInA d8), ?complement, fun q hq => ?memory⟩
  case complement =>
    rw [exec_of_covered hc, exec_of_covered hc]
    exact congrArg _ (s.subFromA_eq_addToA_not d8)
  case memory =>
    apply exec_of_result hc
    rw [← State.subFromA_eq_differenceInA]
    fin_cases hq <;> rfl

/-! ## INC and DEC (R192, R193) -/

/-- Settles O35: each form is the one read and the one write of `State.modified`, with `logical` of the byte written. -/
theorem incrementAndDecrementMemory : Obligations.IncrementAndDecrementMemory := by
  refine fun s d8 d16 hc => ⟨fun q hq => ?inc, fun q hq => ?dec⟩
  case inc => exact exec_of_result hc (by fin_cases hq <;> rfl)
  case dec => exact exec_of_result hc (by fin_cases hq <;> rfl)

end Sys2Proof.Machine
end

section
/-! The proofs for 45_jump_subroutine.md: the jumps (R245), the call and the return as moves of the two stack slots (R246, R247), and
the return from an interrupt (R248). -/

namespace Sys2Proof.Machine

/-! ## Pushes and pulls at the slots of R151 -/

/-- A slot counted from an S that is `j` higher. -/
theorem slot_of_sp {s u : State} {j : Byte} (h : u.sp = s.sp + j) (k : Byte) : Claims.slot u k = Claims.slot s (j + k) := by
  rw [Claims.slot, Claims.slot, h, BitVec.add_assoc]

theorem State.pushWord_slots (s : State) (w : Word) :
    s.pushWord w = ((s.store (Claims.slot s 0) (high w)).store (Claims.slot s 255) (low w)).setSp (s.sp - 2) := by
  rw [State.pushWord_eq, slot_zero, slot_255, show s.sp - 1 - 1 = s.sp - 2 by bv_omega]

theorem State.popWord_slots (s : State) :
    s.popWord = ((s.touch (Claims.slot s 1)).touch (Claims.slot s 2)).setSp (s.sp + 2) := by
  rw [State.popWord_eq, show s.sp + 1 + 1 = s.sp + 2 by bv_omega]
  rfl

theorem State.topWord_slots (s : State) :
    s.topWord = word ((s.touch (Claims.slot s 1)).byteAt (Claims.slot s 2)) (s.byteAt (Claims.slot s 1)) := by
  rw [State.topWord_eq, show s.sp + 1 + 1 = s.sp + 2 by bv_omega]
  rfl

/-! ## JMP, JSR and RTS (R245 to R247) -/

/-- Settles O40: the jumps are their `Instr.result`; JSR is one `pushWord` and RTS one `popWord`, each written at its two slots. -/
theorem jumpsCallsAndReturns : Obligations.JumpsCallsAndReturns := by
  refine ⟨fun s d16 => ⟨rfl, fun hc => exec_of_result hc rfl⟩,
    fun s d16 hc => ⟨exec_of_result hc ?jsr, exec_of_result hc ?rts⟩⟩
  case jsr =>
    rw [Instr.result, State.pushWord_slots]
    rfl
  case rts =>
    rw [Instr.result, State.popWord_slots, State.topWord_slots]
    rfl

/-! ## RTI (R248) -/

/-- RTI once the status byte is pulled: S is one higher, so PC stands in the second and the third slot of the state before. The
registers written so far are put behind the reads, which do not depend on them. -/
theorem State.returned_slots (s : State) :
    s.returned = (((((s.touch (Claims.slot s 1)).touch (Claims.slot s 2)).touch (Claims.slot s 3)).setSp (s.sp + 3)).setP
      (assign (s.byteAt (Claims.slot s 1)))).setPc
        (word (((s.touch (Claims.slot s 1)).touch (Claims.slot s 2)).byteAt (Claims.slot s 3))
          ((s.touch (Claims.slot s 1)).byteAt (Claims.slot s 2))) := by
  have hsp : (s.pop.setP (assign s.top)).sp = s.sp + 1 := State.pop_sp s
  have h2 : Claims.slot (s.pop.setP (assign s.top)) 1 = Claims.slot s 2 := slot_of_sp hsp 1
  have h3 : Claims.slot (s.pop.setP (assign s.top)) 2 = Claims.slot s 3 := slot_of_sp hsp 2
  rw [State.returned, State.popWord_slots, State.topWord_slots, h2, h3, hsp, BitVec.add_assoc, State.pop_eq]
  simp only [State.setP_touch, State.setSp_touch, State.setP_byteAt, State.setSp_byteAt]
  rfl

/-- Settles O41: `State.returned_slots`; `assign` takes the six flags the claim names. -/
theorem rtiRestoresStatusAndPc : Obligations.RtiRestoresStatusAndPc :=
  fun s hc => exec_of_result hc s.returned_slots

end Sys2Proof.Machine
end

section
/-! The proofs for 46_flag_compare.md: a compare as the flags of a byte subtraction (R262), and CMP, CPX and CPY in their modes
(R263 to R265). -/

namespace Sys2Proof.Machine

/-! ## The common compare rule (R262) -/

/-- The exact difference narrowed to a byte is the byte difference, so Z says that the operands are equal. -/
theorem compareFlags_eq (p : Flags) (r m : Byte) :
    compareFlags p r m = { p with z := decide (r = m), n := sign (r - m), c := decide (m.toNat ≤ r.toNat) } := by
  have hdiff : BitVec.ofInt 8 ((r.toNat : Int) - m.toNat) = r - m := by
    apply BitVec.eq_of_toNat_eq
    rw [BitVec.toNat_ofInt, BitVec.toNat_sub]
    omega
  have hz : r - m = 0 ↔ r = m := sub_eq_zero
  simp only [compareFlags, logical, hdiff, hz]

/-- The three flags on numbers, with 256 added so that the difference does not go below 0. -/
theorem compareFlags_eq_mod (p : Flags) (r m : Byte) :
    compareFlags p r m = { p with
      z := decide ((r.toNat + 256 - m.toNat) % 256 = 0), n := decide (128 ≤ (r.toNat + 256 - m.toNat) % 256),
      c := decide (m.toNat ≤ r.toNat) } := by
  have hm := m.isLt
  have hdiff : (r - m).toNat = (r.toNat + 256 - m.toNat) % 256 := by
    rw [BitVec.toNat_sub]
    omega
  have hz : r = m ↔ (r.toNat + 256 - m.toNat) % 256 = 0 := by
    rw [← hdiff, ← sub_eq_zero, ← BitVec.toNat_inj]
    rfl
  rw [compareFlags_eq, sign_eq, hdiff, decide_eq_decide.mpr hz]

/-- Adding the complement with the carry set is subtracting without a borrow (C2), with V put back. -/
theorem compareFlags_eq_addFlags_not (p : Flags) (r m : Byte) :
    compareFlags p r m = { addFlags { p with c := true } r (~~~m) with v := p.v } := by
  have hdiff : BitVec.ofNat 8 (addExact r (~~~m) true) = BitVec.ofInt 8 ((r.toNat : Int) - m.toNat) := by
    rw [addExact, ofNat_sum_not]
    simp
  have hcarry : 255 < addExact r (~~~m) true ↔ m.toNat ≤ r.toNat := by
    rw [addExact, carry_sum_not]
    simp
  simp only [compareFlags, addFlags, arithmetic, logical, hdiff, hcarry]

theorem readThen_of_value {g : State → Byte → State} {o : ValueOperand} {s t : State} {m : Byte} (h : value o s = .ok (m, t)) :
    readThen g o s = .ok (g t m) := by
  rw [readThen, h]
  rfl

/-- Settles O43: each compare reads its operand once (`readThen`), and `compareFlags` is the discarded SBC. -/
theorem compareIsSubtractionThatIsDiscarded : Obligations.CompareIsSubtractionThatIsDiscarded := by
  refine ⟨fun o s t m hv => ⟨?cmp, ?cpx, ?cpy⟩, fun p r m => ⟨compareFlags_eq_mod p r m,
    congrArg Flags.z (compareFlags_eq p r m), compareFlags_eq_addFlags_not p r m, rfl⟩, fun _ => rfl⟩
  case cmp => exact opCmp_eq ▸ readThen_of_value hv
  case cpx => exact opCpx_eq ▸ readThen_of_value hv
  case cpy => exact opCpy_eq ▸ readThen_of_value hv

/-! ## CMP, CPX and CPY in their modes (R263 to R265) -/

theorem State.setP_compareFlags (s : State) (r m : Byte) : s.setP (compareFlags s.p r m) = Claims.compared s r m :=
  congrArg s.setP (compareFlags_eq s.p r m)

/-- An instruction in a memory mode that compares the register `reg` with its operand. The reads leave `reg` alone. -/
theorem exec_compare_at {s : State} (hc : s.covered) {i : Instr} {f : MemForm} (reg : State → Byte)
    (hreg : reg (s.afterOperand f) = reg s)
    (hi : i.result s = (s.afterOperand f).setP (compareFlags (s.afterOperand f).p (reg (s.afterOperand f)) (s.operand f))) :
    exec i s = .next (Claims.compared (s.afterOperand f) (reg s) (s.operand f)) := by
  rw [State.setP_compareFlags, hreg] at hi
  exact exec_of_result hc hi

/-- Settles O42: the immediate forms are `State.setP_compareFlags`, the memory modes `exec_compare_at` of A, X and Y. -/
theorem compareInstructionsSetFlagsOnly : Obligations.CompareInstructionsSetFlagsOnly := by
  refine fun s d8 d16 hc => ⟨⟨exec_of_result hc (s.setP_compareFlags s.a d8), fun q hq => ?cmp⟩,
    ⟨exec_of_result hc (s.setP_compareFlags s.x d8), fun q hq => ?cpx⟩,
    exec_of_result hc (s.setP_compareFlags s.y d8), fun q hq => ?cpy⟩
  case cmp => exact exec_compare_at hc State.a (State.afterOperand_a s _) (by fin_cases hq <;> rfl)
  case cpx => exact exec_compare_at hc State.x (State.afterOperand_x s _) (by fin_cases hq <;> rfl)
  case cpy => exact exec_compare_at hc State.y (State.afterOperand_y s _) (by fin_cases hq <;> rfl)

end Sys2Proof.Machine
end

section
/-! The proofs for 47_stack.md: PHA and PHP are one push (R275, R276), PLA and PLP one pull (R277, R278), each at its slot of R151. -/

namespace Sys2Proof.Machine

/-! ## One push and one pull at the slots of R151 -/

theorem State.push_slot (s : State) (b : Byte) : s.push b = (s.store (Claims.slot s 0) b).setSp (s.sp - 1) := by
  rw [State.push, slot_zero]

theorem State.pop_slot (s : State) : s.pop = (s.touch (Claims.slot s 1)).setSp (s.sp + 1) := State.pop_eq s

theorem State.top_slot (s : State) : s.top = s.byteAt (Claims.slot s 1) := rfl

/-! ## PHA, PHP, PLA and PLP (R275 to R278) -/

/-- Settles O44: each instruction is its one push or pull at that slot. PHP pushes the status byte of `instructionValue_eq`; the pull
leaves P alone, so PLA has Z and N follow the byte in the flags before, and PLP has `assign` take all six from it. -/
theorem stackInstructionsPushAndPull : Obligations.StackInstructionsPushAndPull := by
  refine fun s hc => ⟨exec_of_result hc ?pha, exec_of_result hc ?php, exec_of_result hc ?pla, exec_of_result hc ?plp⟩
  case pha => exact s.push_slot s.a
  case php =>
    rw [Instr.result, instructionValue_eq]
    exact s.push_slot _
  case pla =>
    rw [Instr.result, State.loadA, State.pop_p, State.pop_slot, State.top_slot]
    rfl
  case plp =>
    rw [Instr.result, State.pop_slot, State.top_slot]
    rfl

end Sys2Proof.Machine
end

section
/-! The proofs for 60_exceptions.md: the one fault an instruction can end in (R300, R302), an entry as a whole state (R309), and BRK
and NOP (R27, R285, R286, R310). -/

namespace Sys2Proof.Machine

/-! ## The one fault of an instruction (R300, R302) -/

theorem exec_not_refused (i : Instr) (s : State) (x : Refusal) : exec i s ≠ .refused x := by
  rcases exec_runs i s with h | ⟨a, h, -⟩ <;> simp [h]

theorem exec_fault {i : Instr} {s : State} {f : Fault} (h : exec i s = .fault f) :
    ∃ a, f = .unmappedAccess a ∧ s.claimed a = false := by
  rcases exec_runs i s with hn | ⟨a, hf, hc⟩
  · cases h.symm.trans hn
  · exact ⟨a, Host.Outcome.fault.inj (h.symm.trans hf), hc⟩

/-- Settles O48: `exec_runs` leaves an instruction two outcomes, a next state and the fault on an unclaimed address. -/
theorem instructionsFaultOnlyOnUnclaimedAddresses : Obligations.InstructionsFaultOnlyOnUnclaimedAddresses :=
  fun i s => ⟨exec_not_refused i s, fun _ => exec_fault, fun hc => ⟨_, exec_of_covered hc i⟩⟩

/-! ## An entry at the slots of R151 (R309) -/

/-- The three stores, then S and P. -/
theorem State.saved_slots (s : State) (status : Byte) :
    s.saved status =
      ((((s.store (Claims.slot s 0) (high s.pc)).store (Claims.slot s 255) (low s.pc)).store (Claims.slot s 254) status).setSp
        (s.sp - 3)).setP { s.p with i := true } := by
  have hsp : (s.pushWord s.pc).sp = s.sp + 254 := by
    rw [State.pushWord_sp]
    bv_omega
  have hslot : Claims.slot (s.pushWord s.pc) 0 = Claims.slot s 254 := slot_of_sp hsp 0
  rw [State.saved, State.push_slot, hslot, State.pushWord_sp, State.pushWord_slots, State.setSp_store,
    show s.sp - 1 - 1 - 1 = s.sp - 3 by bv_omega, Config.entrySetsI, Bool.or_true]
  rfl

/-- The registers are written before the vector is read, which does not depend on them. -/
theorem State.entered_slots (s : State) (status : Byte) (vector : Word) :
    s.entered status vector = Claims.entered s s.pc status vector := by
  rw [State.entered, State.saved_slots, State.touchWord, State.wordAt, secondAddr_eq]
  simp only [State.setP_touch, State.setSp_touch, State.setP_byteAt, State.setSp_byteAt]
  rfl

/-- The PC before an entry matters only as the return address. -/
theorem entered_setPc (s : State) (pc back : Word) (status : Byte) (vector : Word) :
    Claims.entered (s.setPc pc) back status vector = Claims.entered s back status vector := by
  have hslot (k : Byte) : Claims.slot (s.setPc pc) k = Claims.slot s k := rfl
  simp only [Claims.entered, Claims.pointed, hslot, State.setPc_store, State.setPc_touch, State.setPc_byteAt]
  rfl

/-! ## The status byte an entry pushes (R31, R32, R310) -/

/-- Bits 4 and 5 are set in the byte an instruction pushes. -/
theorem instructionValue_bits (p : Flags) :
    (instructionValue p).getLsbD 4 = true ∧ (instructionValue p).getLsbD 5 = true := by
  simp [-BitVec.getLsbD_eq_getElem, instructionValue, pack_getLsbD]

/-- Bit 4 is clear and bit 5 set in the byte an interrupt pushes. -/
theorem interruptValue_bits (p : Flags) :
    (interruptValue p).getLsbD 4 = false ∧ (interruptValue p).getLsbD 5 = true := by
  simp [-BitVec.getLsbD_eq_getElem, interruptValue, pack_getLsbD]

/-! ## BRK and NOP (R27, R285, R286) -/

theorem brk_result (s : State) :
    Instr.brk.result s = Claims.entered s (s.pc + 1) (Claims.statusByte s.p true) 0xFFFE := by
  rw [Instr.result, State.entered_slots, entered_setPc, instructionValue_eq]
  rfl

/-- Settles O56: BRK and an interrupt are the same entry but for the status byte, which is on top of the stack afterwards. -/
theorem brkEntersAndIsToldApart : Obligations.BrkEntersAndIsToldApart := by
  refine ⟨fun s h => ⟨⟨_, exec_of_covered (State.covered_of_onConsole h) _, ?brk⟩,
    fun vector => ⟨_, enter_of_covered (State.covered_of_onConsole h) _ vector, ?interrupt⟩⟩,
    fun _ => rfl, fun s hc => exec_of_result hc (brk_result s)⟩
  case brk =>
    rw [Instr.result, ← State.top_slot, State.top_entered (s := s.setPc (s.pc + 1)) h]
    exact instructionValue_bits s.p
  case interrupt =>
    rw [← State.top_slot, State.top_entered h]
    exact interruptValue_bits s.p

end Sys2Proof.Machine
end

section
/-! The proofs for 20_memory.md section 4 that read the console's map by its ranges: the one owner of an address and the mirrors of RAM
(R72, R73, D13), the ROM windows (R77, D14), and the images a cartridge accepts (R79). -/

namespace Sys2Proof.Machine

/-! ## The one owner of an address (R72) -/

/-- Where each entry of the list ends before the later ones begin, the entries that contain an address are the first that does. -/
theorem filter_contains_of_ascending {l : List Slot} (hasc : l.Pairwise fun d e => d.stop ≤ e.base) (a : Word) :
    l.filter (fun d => d.contains a) = (l.find? fun d => d.contains a).toList := by
  induction l with
  | nil => rfl
  | cons d l ih =>
    obtain ⟨hd, hl⟩ := List.pairwise_cons.mp hasc
    cases hc : d.contains a with
    | false => rw [List.filter_cons_of_neg (by simp [hc]), List.find?_cons_of_neg (by simp [hc]), ih hl]
    | true =>
      have hrest : l.filter (fun e => e.contains a) = [] := List.filter_eq_nil_iff.mpr fun e he hce => by
        have hstop := hd e he
        rw [Slot.contains_iff] at hc hce
        omega
      rw [List.filter_cons_of_pos (by simp [hc]), List.find?_cons_of_pos (by simp [hc]), hrest]
      rfl

/-- The kind of device at each range of the console's map. -/
theorem State.owner_kind {s : State} (h : s.onConsole) (a : Word) :
    (s.owner a).map Slot.kind = some (if a.toNat < 0x2000 then .ram else if a.toNat < 0x4000 then .ppu
      else if a.toNat < 0x4020 then .io else .cartridge) := by
  split_ifs with hram hppu hio
  · rw [State.owner_ram h hram]
    rfl
  · rw [State.owner_ppu h (by omega) hppu]
    rfl
  · rw [State.owner_io h (by omega) hio]
    rfl
  · rw [State.owner_cartridge h (by omega)]
    rfl

theorem State.one_device_contains {s : State} (h : s.onConsole) (a : Word) :
    (s.devices.filter fun d => d.contains a).length = 1 := by
  have hasc : s.devices.Pairwise fun d e => d.stop ≤ e.base := by
    rw [h]
    decide
  obtain ⟨d, hd⟩ := Option.isSome_iff_exists.mp (State.covered_of_onConsole h a)
  rw [filter_contains_of_ascending hasc, show s.devices.find? (fun d => d.contains a) = some d from hd]
  rfl

/-! ## The mirrors of RAM (R46, R73) -/

/-- An address below 2000 is in RAM at its distance from the last multiple of 800. -/
theorem index_consoleRam (a : Word) : consoleRam.index a = a.toNat % 0x800 := rfl

theorem mirror_toNat {a j : Nat} (ha : a < 0x800) (hj : j < 4) : (BitVec.ofNat 16 (a + 0x800 * j)).toNat = a + 0x800 * j := by
  rw [BitVec.toNat_ofNat]
  omega

theorem State.store_byteAt_mirror {s : State} (h : s.onConsole) {a j k : Nat} (v : Byte) (ha : a < 0x800) (hj : j < 4)
    (hk : k < 4) : (s.store (BitVec.ofNat 16 (a + 0x800 * j)) v).byteAt (BitVec.ofNat 16 (a + 0x800 * k)) = v := by
  have hram {n : Nat} (hn : n < 4) : s.owner (BitVec.ofNat 16 (a + 0x800 * n)) = some consoleRam :=
    State.owner_ram h (by rw [mirror_toNat ha hn]; omega)
  have hcell : consoleRam.index (BitVec.ofNat 16 (a + 0x800 * k)) = consoleRam.index (BitVec.ofNat 16 (a + 0x800 * j)) := by
    rw [index_consoleRam, index_consoleRam, mirror_toNat ha hj, mirror_toNat ha hk, Nat.add_mul_mod_self_left,
      Nat.add_mul_mod_self_left]
  rw [State.store_byteAt_of_ram v (hram hj) (hram hk) rfl, if_pos hcell]

/-- Settles O17: `State.owner_kind` and `State.one_device_contains` for the ranges, `State.store_byteAt_mirror` for RAM. -/
theorem consoleMapOwnersAndMirrors : Obligations.ConsoleMapOwnersAndMirrors :=
  ⟨fun _ h a => ⟨State.owner_kind h a, State.one_device_contains h a⟩,
    fun _ _ _ _ v h ha hj hk => State.store_byteAt_mirror h v ha hj hk⟩

/-! ## The ROM windows (R77, D14) -/

section
variable {s : State} {a : Word} (ho : s.owner a = some consoleCartridge) (hle : 0x8000 ≤ a.toNat)
include ho hle

theorem State.byteAt_of_rom : s.byteAt a = s.cart.image.windowByte a := by
  rw [State.byteAt, ho]
  exact if_neg (Nat.not_lt.mpr hle)

theorem State.touch_of_rom : s.touch a = s := by
  rw [State.touch, ho]
  exact if_neg (Nat.not_lt.mpr hle)

theorem State.store_of_rom (v : Byte) : s.store a v = s := by
  rw [State.store, ho]
  exact if_neg (Nat.not_lt.mpr hle)

end

/-- Settles O18: the cartridge owns the address, and its windows show the banks at the two ends of the list. -/
theorem romWindowsShowTheBanks : Obligations.RomWindowsShowTheBanks := by
  intro s a v first last h hfirst hlast hle
  have ho := State.owner_cartridge h (a := a) (by omega)
  refine ⟨?_, State.touch_of_rom ho hle, State.store_of_rom ho hle v⟩
  rw [List.head?_eq_getElem?] at hfirst
  rw [List.getLast?_eq_getElem?] at hlast
  rw [State.byteAt_of_rom ho hle, RomImage.windowByte, RomImage.prgByte, RomImage.prgByte, hfirst, hlast]
  rfl

/-! ## The images a cartridge accepts (R79) -/

/-- What an image must fit: mapper 0, one or two PRG banks, at most one CHR bank. -/
def RomImage.fits (r : RomImage) : Prop := r.mapper = 0 ∧ 1 ≤ r.prg.length ∧ r.prg.length ≤ 2 ∧ r.chr.length ≤ 1

theorem Cartridge.construct_of_fits {r : RomImage} (h : r.fits) (low : Port) : Cartridge.construct r low = .ok ⟨r, low⟩ := by
  obtain ⟨hmapper, hprg, hprg', hchr⟩ := h
  rw [Cartridge.construct, if_neg (not_not_intro hmapper), if_neg (by omega), if_neg (by omega)]

theorem Cartridge.construct_of_not_fits {r : RomImage} (h : ¬r.fits) (low : Port) :
    ∃ e, Cartridge.construct r low = .error e := by
  unfold Cartridge.construct
  split_ifs with hmapper hprg hchr
  · exact ⟨_, rfl⟩
  · exact ⟨_, rfl⟩
  · exact ⟨_, rfl⟩
  · exact absurd ⟨not_not.mp hmapper, by omega, by omega, by omega⟩ h

/-- Settles O27: `Cartridge.construct` answers the image where it fits, and an error otherwise. -/
theorem cartridgeAcceptsOnlyFittingImages : Obligations.CartridgeAcceptsOnlyFittingImages := by
  intro r low
  by_cases h : r.fits
  · have hok := Cartridge.construct_of_fits h low
    exact ⟨iff_of_true hok h, iff_of_false (by simp [hok]) (not_not_intro h)⟩
  · obtain ⟨e, he⟩ := Cartridge.construct_of_not_fits h low
    exact ⟨iff_of_false (by simp [he]) h, iff_of_true ⟨e, he⟩ h⟩

end Sys2Proof.Machine
end

section
/-! The proofs for 30_encoding.md sections 3 and 4: the undefined opcodes are those the list by column names (R109), and the bytes
shown as examples of the thirteen modes (R111). -/

namespace Sys2Proof

/-! ## The undefined opcodes (R109) -/

/-- No entry of the map stands under a listed byte. -/
theorem listedIllegal_of_mem_opcodeMap {op : Byte} {shape : Shape} (h : (op, shape) ∈ opcodeMap) :
    Claims.listedIllegal op = false := by
  have hall : (opcodeMap.all fun row => !Claims.listedIllegal row.1) = true := by decide
  simpa using List.all_eq_true.mp hall _ h

/-- Every byte that is not listed has an entry, in its own row of the map. -/
theorem findOpcode_row_isSome : ∀ op : Byte, Claims.listedIllegal op = false →
    (findOpcode (opcodeRows.getD (op.toNat / 16) []) op).isSome = true := by
  decide

/-- The list by column and the map by row name complementary sets of bytes. -/
theorem decodeOpcode_isNone (op : Byte) : (decodeOpcode op).isNone = Claims.listedIllegal op := by
  cases h : Claims.listedIllegal op with
  | false =>
    obtain ⟨shape, hshape⟩ := Option.isSome_iff_exists.mp (findOpcode_row_isSome op h)
    rw [decodeOpcode_of_row hshape, Option.isNone_some]
  | true =>
    rw [Option.isNone_iff_eq_none, Option.eq_none_iff_forall_ne_some]
    intro shape hshape
    simp [listedIllegal_of_mem_opcodeMap (decodeOpcode_eq_some_iff.mp hshape)] at h

/-- Settles O4: `decodeOpcode_isNone`, and the listed bytes counted. -/
theorem undefinedOpcodesAreTheListedOnes : Obligations.UndefinedOpcodesAreTheListedOnes :=
  ⟨fun op => by rw [decodeOpcode_isNone], by decide⟩

/-! ## One example for each mode (R111) -/

/-- Settles O3: each example is the encoding of its instruction, and encodings are decoded back. -/
theorem assemblerExamplesDecode : Obligations.AssemblerExamplesDecode := by
  have h (i : Instr) : decode (encode i ++ []) = .ok (i, []) := decodeOfEncodeIsTheInstruction i []
  exact ⟨h .clc, h .aslAcc, h (.ldaImm 0x10), h (.ldaZp 0x10), h (.ldaZpx 0x10), h (.ldxZpy 0x10), h (.ldaAbs 0x1234),
    h (.ldaAbx 0x1234), h (.ldaAby 0x1234), h (.jmpInd 0x1234), h (.ldaIzx 0x10), h (.ldaIzy 0x10), h (.bne 0x03)⟩

end Sys2Proof
end

section
/-! The proofs for 44_branch.md: the common branch rule (R230) with the target of mode REL (R149). -/

namespace Sys2Proof.Machine

/-- The target is the exact sum of PC and the signed displacement, taken modulo 65536. -/
theorem relTarget_eq (d8 : Byte) (s : State) : relTarget d8 s = BitVec.ofInt 16 (s.pc.toNat + d8.toInt) := by
  rw [relTarget, BitVec.ofInt_add, BitVec.ofInt_natCast, BitVec.ofNat_toNat, BitVec.setWidth_eq]
  rfl

theorem branchIf_eq (taken : Bool) (d8 : Byte) (s : State) :
    branchIf taken d8 s = if taken then { s with pc := BitVec.ofInt 16 (s.pc.toNat + d8.toInt) } else s := by
  rw [branchIf, relTarget_eq]
  rfl

/-- Settles O39: each branch is `branchIf` of its flag. -/
theorem branchesGoToTheTargetWhenTaken : Obligations.BranchesGoToTheTargetWhenTaken := by
  intro s d8 q hq
  rw [← branchIf_eq]
  fin_cases hq <;> rfl

end Sys2Proof.Machine
end

section
/-! The proofs for 60_exceptions.md and 70_reset_and_hazards.md: the stop at an undefined opcode (R301), the reset step and the state
it leaves (R50, R340, R341), the NMI and IRQ entries (R306 to R309), the moves of the environment (R305, R347), and the jump to itself
(R346). -/

namespace Sys2Proof.Machine

/-! ## An undefined opcode (R109, R301, D5) -/

theorem fetchInstr_of_undefined {s : State} (hc : s.claimed s.pc = true) (hop : (decodeOpcode (s.byteAt s.pc)).isNone = true) :
    fetchInstr s = .error (.illegalOpcode s.pc (s.byteAt s.pc)) := by
  rw [fetchInstr, fetch8_of_claimed hc]
  simp only [bind, Except.bind, Option.isNone_iff_eq_none.mp hop]

/-- Settles O5: with no event pending the step fetches, and the fetch stops at the opcode byte. -/
theorem illegalOpcodeStopsTheMachine : Obligations.IllegalOpcodeStopsTheMachine := by
  intro s hq hc hop
  rw [step, serveEvent_of_quiet hq, fetchInstr_of_undefined hc hop]

/-! ## The event a step serves (R306 to R308, D8) -/

theorem serveEvent_of_reset {s : State} (hr : s.resetPending = true) : serveEvent s = some (resetSequence s) := if_pos hr

theorem serveEvent_of_nmi {s : State} (hr : s.resetPending = false) (hn : s.nmiPending = true) :
    serveEvent s = some (interruptEntry nmiVector (s.setNmiPending false)) := by
  simp [serveEvent, hr, hn]

theorem serveEvent_of_irq {s : State} (hr : s.resetPending = false) (hn : s.nmiPending = false) (hq : s.irqLine = true)
    (hi : s.p.i = false) : serveEvent s = some (interruptEntry irqVector s) := by
  simp [serveEvent, hr, hn, hq, hi]

theorem step_of_event {s t : State} {r : Except Fault State} (he : serveEvent s = some r) (hr : r = .ok t) : step s = .next t := by
  rw [step, he, hr]
  rfl

/-! ## The reset step (R50, R340, R341, D9) -/

/-- The registers are written before the vector is read, which does not depend on them. -/
theorem State.resetDone_eq (s : State) :
    s.resetDone = { (s.touch 0xFFFC).touch 0xFFFD with
      sp := 0xFF, p := { s.p with i := true }, pc := (s.touch 0xFFFC).byteAt 0xFFFD ++ s.byteAt 0xFFFC,
      resetPending := false, nmiPending := false } := by
  simp only [State.resetDone, State.touchWord, State.wordAt, State.setP_touch, State.setSp_touch, State.setP_byteAt,
    State.setSp_byteAt]
  rfl

theorem step_of_reset {s : State} (hc : s.covered) (hr : s.resetPending = true) : step s = .next s.resetDone :=
  step_of_event (serveEvent_of_reset hr) (resetSequence_of_covered hc)

/-- Settles O22: the reset step leaves `State.resetDone`. -/
theorem resetStepLoadsTheVector : Obligations.ResetStepLoadsTheVector := by
  intro s hc hr
  rw [step_of_reset hc hr, State.resetDone_eq]

/-- Settles O25: the fields of the reset state are read off, and from power-on `step_of_reset` leaves them. -/
theorem resetStateIsAsTheSpecSays : Obligations.ResetStateIsAsTheSpecSays :=
  ⟨rfl, rfl, rfl, rfl, rfl, rfl, rfl, step_of_reset (s := State.powerOn) (State.covered_of_onConsole rfl) rfl⟩

/-! ## NMI and IRQ (R306, R307, R309) -/

theorem interruptValue_eq (p : Flags) : interruptValue p = Claims.statusByte p false := by
  obtain ⟨c, z, i, d, v, n⟩ := p
  revert c z i d v n
  decide

theorem interruptEntry_of_covered {s : State} (hc : s.covered) (vector : Word) :
    interruptEntry vector s = .ok (Claims.entered s s.pc (Claims.statusByte s.p false) vector) := by
  rw [interruptEntry, enter_of_covered hc, State.entered_slots, interruptValue_eq]

/-- Settles O23: the step serves the entry of its event, and `interruptEntry_of_covered` says what that leaves. -/
theorem interruptStepsEnter : Obligations.InterruptStepsEnter := by
  refine ⟨fun s hc hr hn => step_of_event (serveEvent_of_nmi hr hn) ?nmi, fun s hc hr hn hq hi =>
    step_of_event (serveEvent_of_irq hr hn hq hi) (interruptEntry_of_covered hc irqVector)⟩
  case nmi =>
    have hc' : (s.setNmiPending false).covered := State.covered_congr (by simp) hc
    exact interruptEntry_of_covered hc' nmiVector

/-! ## The environment (R305, R347, D18) -/

/-- Settles O26: each move is one setter, the field update the claim writes out; setting a latch twice sets the same field. -/
theorem environmentDrivesOnlyItsInputs : Obligations.EnvironmentDrivesOnlyItsInputs :=
  fun _ _ _ => ⟨rfl, rfl, rfl, rfl, rfl, rfl, rfl⟩

/-! ## A jump to itself (R346, D17) -/

/-- Storage is RAM or ROM, so a bus read answers the byte stored and changes nothing. -/
theorem busRead_of_stored {s : State} {a : Word} {b : Byte} (h : s.stored a = some b) : busRead a s = .ok (b, s) := by
  unfold State.stored at h
  split at h
  · rename_i d ho
    rw [busRead_of_owner ho]
    cases hk : d.kind <;> simp only [hk, reduceCtorEq, Option.some.injEq] at h
    case ram => simp only [Slot.byteAt, Slot.afterRead, hk, h]
    case cartridge =>
      split at h
      · cases h
      · rename_i hlow
        cases h
        simp only [Slot.byteAt, Slot.afterRead, hk, if_neg hlow]
  · cases h

theorem fetch8_of_storage {s : State} {a : Word} {b : Byte} (h : s.stored a = some b) :
    fetch8 (s.setPc a) = .ok (b, s.setPc (a + 1)) := by
  have hread : busRead a (s.setPc a) = .ok (b, s.setPc a) := busRead_of_stored (s := s.setPc a) h
  rw [fetch8, State.setPc_pc, hread]
  rfl

/-- Fetching a `JMP $nnnn` from storage moves PC past it and changes nothing else. -/
theorem fetchInstr_of_stored_jmpAbs {s : State} {a w : Word} (hop : s.stored a = some 0x4C)
    (hlow : s.stored (a + 1) = some (low w)) (hhigh : s.stored (a + 2) = some (high w)) :
    fetchInstr (s.setPc a) = .ok (.jmpAbs w, s.setPc (a + 2 + 1)) := by
  have hjmp : decodeOpcode 0x4C = some (.f3 .jmpAbs) := rfl
  have hword : fetch16 (s.setPc (a + 1)) = .ok (w, s.setPc (a + 2 + 1)) := by
    rw [fetch16, fetch8_of_storage hlow]
    simp only [bind, Except.bind, show a + 1 + 1 = a + 2 by bv_omega, fetch8_of_storage hhigh, pure, Except.pure, word_high_low]
  rw [fetchInstr, fetch8_of_storage hop]
  simp only [bind, Except.bind, hjmp, hword, pure, Except.pure]

/-- Settles O58: the fetch leaves only PC changed, and the jump puts it back. -/
theorem jumpToSelfLeavesTheStateUnchanged : Obligations.JumpToSelfLeavesTheStateUnchanged := by
  intro s hq hop hlow hhigh
  have hfetch : fetchInstr s = .ok (.jmpAbs s.pc, s.setPc (s.pc + 2 + 1)) := fetchInstr_of_stored_jmpAbs hop hlow hhigh
  rw [step, serveEvent_of_quiet hq, hfetch]
  rfl

end Sys2Proof.Machine
end

section
/-! The proof for 60_exceptions.md section 2 that a masked IRQ changes nothing (R306): driving the line before an operation is driving
it afterwards, said of every primitive, of every shape of an instruction and so of a step. -/

namespace Sys2Proof.Machine

/-! ## The registers and requests are set beside the IRQ line -/

@[simp] theorem State.setIrqLine_setSp (s : State) (level : Bool) (v : Byte) :
    (s.setIrqLine level).setSp v = (s.setSp v).setIrqLine level := rfl
@[simp] theorem State.setIrqLine_setPc (s : State) (level : Bool) (v : Word) :
    (s.setIrqLine level).setPc v = (s.setPc v).setIrqLine level := rfl
@[simp] theorem State.setIrqLine_setP (s : State) (level : Bool) (v : Flags) :
    (s.setIrqLine level).setP v = (s.setP v).setIrqLine level := rfl
@[simp] theorem State.setIrqLine_setResetPending (s : State) (level v : Bool) :
    (s.setIrqLine level).setResetPending v = (s.setResetPending v).setIrqLine level := rfl
@[simp] theorem State.setIrqLine_setNmiPending (s : State) (level v : Bool) :
    (s.setIrqLine level).setNmiPending v = (s.setNmiPending v).setIrqLine level := rfl

/-- A value beside a state, with the IRQ line of the state driven to a level. -/
@[simp] def drivenPair {α : Type} (level : Bool) (r : α × State) : α × State := (r.1, r.2.setIrqLine level)

/-- An outcome, with the IRQ line of the state it leaves, if any, driven to a level. -/
def drivenOutcome (level : Bool) : Host.Outcome State Fault Refusal → Host.Outcome State Fault Refusal
  | .next t => .next (t.setIrqLine level)
  | .fault f => .fault f
  | .refused r => .refused r

theorem outcome_setIrqLine (level : Bool) (r : Except Fault State) :
    outcome ((·.setIrqLine level) <$> r) = drivenOutcome level (outcome r) := by
  cases r <;> rfl

section
variable (s : State) (level : Bool)

/-! ## The bus and the stack -/

theorem busRead_setIrqLine (a : Word) : busRead a (s.setIrqLine level) = drivenPair level <$> busRead a s := by
  rw [busRead, busRead, State.setIrqLine_claimed, State.setIrqLine_touch]
  split <;> rfl

theorem busWrite_setIrqLine (a : Word) (v : Byte) :
    busWrite a v (s.setIrqLine level) = (·.setIrqLine level) <$> busWrite a v s := by
  rw [busWrite, busWrite, State.setIrqLine_claimed, State.setIrqLine_store]
  split <;> rfl

theorem readWord_setIrqLine (a : Word) : readWord a (s.setIrqLine level) = drivenPair level <$> readWord a s := by
  simp [readWord, busRead_setIrqLine]

theorem push8_setIrqLine (b : Byte) : push8 b (s.setIrqLine level) = (·.setIrqLine level) <$> push8 b s := by
  simp [push8, busWrite_setIrqLine]

theorem pull8_setIrqLine : pull8 (s.setIrqLine level) = drivenPair level <$> pull8 s :=
  busRead_setIrqLine (s.setSp (s.sp + 1)) level _

theorem push16_setIrqLine (w : Word) : push16 w (s.setIrqLine level) = (·.setIrqLine level) <$> push16 w s := by
  simp [push16, push8_setIrqLine]

theorem pull16_setIrqLine : pull16 (s.setIrqLine level) = drivenPair level <$> pull16 s := by
  simp [pull16, pull8_setIrqLine]

/-! ## Entry, return, reset -/

theorem enter_setIrqLine (status : Byte) (vector : Word) :
    enter status vector (s.setIrqLine level) = (·.setIrqLine level) <$> enter status vector s := by
  simp [enter, push16_setIrqLine, push8_setIrqLine, readWord_setIrqLine]

theorem returnFromEntry_setIrqLine : returnFromEntry (s.setIrqLine level) = (·.setIrqLine level) <$> returnFromEntry s := by
  simp [returnFromEntry, pull8_setIrqLine, pull16_setIrqLine]

theorem resetSequence_setIrqLine : resetSequence (s.setIrqLine level) = (·.setIrqLine level) <$> resetSequence s := by
  simp [resetSequence, readWord_setIrqLine]

/-! ## Operands -/

theorem resolve_setIrqLine (f : MemForm) : resolve f (s.setIrqLine level) = drivenPair level <$> resolve f s := by
  have hpointer : f.pointer (s.setIrqLine level) = f.pointer s := by cases f <;> rfl
  have haddress (w : Word) : f.address (s.setIrqLine level) w = f.address s w := by cases f <;> rfl
  rw [resolve, resolve, hpointer]
  cases f.pointer s with
  | none => exact congrArg (fun a => Except.ok (a, s.setIrqLine level)) (haddress 0)
  | some p => simp [readWord_setIrqLine, haddress]

theorem onMemory_setIrqLine (f : MemForm) {op : Ref → State → Except Fault State}
    (hop : ∀ a t, op (.mem a) (t.setIrqLine level) = (·.setIrqLine level) <$> op (.mem a) t) :
    onMemory f op (s.setIrqLine level) = drivenOutcome level (onMemory f op s) := by
  rw [onMemory, onMemory, ← outcome_setIrqLine]
  simp [resolve_setIrqLine, hop]

theorem modify_setIrqLine (r : Ref) (f : Byte → Byte) (g : Flags → Byte → Flags) :
    modify f g r (s.setIrqLine level) = (·.setIrqLine level) <$> modify f g r s := by
  cases r with
  | acc => rfl
  | mem a => simp [modify, refRead, refWrite, busRead_setIrqLine, busWrite_setIrqLine]

/-! ## The operations by mnemonic, and every instruction -/

section
variable {m : Mnemonic}

theorem ReadOp.setIrqLine {g : State → Byte → State} (h : ReadOp m g) (b : Byte) :
    g (s.setIrqLine level) b = (g s b).setIrqLine level := by
  cases h <;> rfl

theorem StoreOp.setIrqLine {reg : State → Byte} (h : StoreOp m reg) : reg (s.setIrqLine level) = reg s := by
  cases h <;> rfl

theorem ShiftOp.setIrqLine {op : Ref → State → Except Fault State} {f : Byte → Bool → Byte × Bool} (h : ShiftOp m op f) (r : Ref) :
    op r (s.setIrqLine level) = (·.setIrqLine level) <$> op r s := by
  rw [h.op_eq, h.op_eq]
  exact modify_setIrqLine s level r _ _

theorem ModifyOp.setIrqLine {op : Ref → State → Except Fault State} {w : Byte → Bool → Byte} {k : Flags → Byte → Flags}
    (h : ModifyOp m op w k) (r : Ref) : op r (s.setIrqLine level) = (·.setIrqLine level) <$> op r s := by
  cases h with
  | inc => exact modify_setIrqLine s level r (· + 1) fun p b => logical p (b + 1)
  | dec => exact modify_setIrqLine s level r (· - 1) fun p b => logical p (b - 1)
  | shift h => exact h.setIrqLine s level r

theorem branchIf_setIrqLine (taken : Bool) (d8 : Byte) :
    branchIf taken d8 (s.setIrqLine level) = (branchIf taken d8 s).setIrqLine level := by
  cases taken <;> rfl

theorem RegisterOp.setIrqLine {g : State → State} (h : RegisterOp m g) : g (s.setIrqLine level) = (g s).setIrqLine level := by
  cases h <;> rfl

theorem AccessOp.setIrqLine {op : State → Except Fault State} {g : State → State} (h : AccessOp m op g) :
    op (s.setIrqLine level) = (·.setIrqLine level) <$> op s := by
  cases h with
  | jmp d16 => simp [opJmpInd, indTarget, readWord_setIrqLine]
  | jsr d16 => simp [opJsr, push16_setIrqLine]
  | rts => simp [opRts, pull16_setIrqLine]
  | rti => exact returnFromEntry_setIrqLine s level
  | pha => exact push8_setIrqLine s level s.a
  | php => exact push8_setIrqLine s level (instructionValue s.p)
  | pla => simp [opPla, pull8_setIrqLine, ReadOp.lda.setIrqLine]
  | plp => simp [opPlp, pull8_setIrqLine]
  | brk => exact enter_setIrqLine (s.setPc (s.pc + 1)) level (instructionValue s.p) irqVector

end

theorem exec_setIrqLine (i : Instr) : exec i (s.setIrqLine level) = drivenOutcome level (exec i s) := by
  cases exec_shape i with
  | immediate b _ h he _ =>
    rw [he, he, h.setIrqLine]
    rfl
  | operand _ _ h he _ =>
    rw [he, he]
    refine onMemory_setIrqLine s level _ fun a t => ?_
    simp [readThen, value, refRead, busRead_setIrqLine, h.setIrqLine]
  | store _ _ h he _ =>
    rw [he, he]
    refine onMemory_setIrqLine s level _ fun a t => ?_
    rw [h.setIrqLine]
    exact busWrite_setIrqLine t level a _
  | modify _ _ h he _ =>
    rw [he, he]
    exact onMemory_setIrqLine s level _ fun a t => h.setIrqLine t level (.mem a)
  | shiftA _ _ h he _ => rw [he, he, h.setIrqLine, outcome_setIrqLine]
  | branch d8 _ _ he _ =>
    rw [he, he, State.setIrqLine_p, branchIf_setIrqLine]
    rfl
  | register _ h he _ =>
    rw [he, he, h.setIrqLine]
    rfl
  | access _ h he _ => rw [he, he, h.setIrqLine, outcome_setIrqLine]

/-! ## A step -/

theorem fetch8_setIrqLine : fetch8 (s.setIrqLine level) = drivenPair level <$> fetch8 s := by
  simp [fetch8, busRead_setIrqLine]

theorem fetch16_setIrqLine : fetch16 (s.setIrqLine level) = drivenPair level <$> fetch16 s := by
  simp [fetch16, fetch8_setIrqLine]

theorem fetchInstr_setIrqLine : fetchInstr (s.setIrqLine level) = drivenPair level <$> fetchInstr s := by
  simp only [fetchInstr, fetch8_setIrqLine, map_bind, bind_map_left]
  congr 1
  funext ⟨op, t⟩
  dsimp only [drivenPair]
  cases decodeOpcode op with
  | none => rfl
  | some shape =>
    cases shape with
    | f1 i => rfl
    | f2 make => simp [fetch8_setIrqLine]
    | f3 make => simp [fetch16_setIrqLine]

/-- With I set the level decides no event. -/
theorem serveEvent_setIrqLine (hi : s.p.i = true) :
    serveEvent (s.setIrqLine level) = ((·.setIrqLine level) <$> ·) <$> serveEvent s := by
  cases hr : s.resetPending <;> cases hn : s.nmiPending <;>
    simp [serveEvent, hr, hn, hi, resetSequence_setIrqLine, interruptEntry, enter_setIrqLine]

theorem step_setIrqLine (hi : s.p.i = true) : step (s.setIrqLine level) = drivenOutcome level (step s) := by
  rw [step, step, serveEvent_setIrqLine s level hi, fetchInstr_setIrqLine]
  cases serveEvent s with
  | some r => exact outcome_setIrqLine level r
  | none =>
    cases fetchInstr s with
    | error f => rfl
    | ok r => exact exec_setIrqLine r.2 level r.1

end

/-- Settles O24: `step_setIrqLine`, where the step completes. -/
theorem maskedIrqLeavesTheStepAlone : Obligations.MaskedIrqLeavesTheStepAlone :=
  fun s _ level hi h => (step_setIrqLine s level hi).trans (congrArg (drivenOutcome level) h)

end Sys2Proof.Machine
end
